-- ==== Sys2Proof/Word.lean ====
section
/-! DEFINITION. The bit vectors of the block: bytes, 16-bit register and field values, 32-bit device identifiers
(spec/00_scope.md R5, R6: every value is unsigned, bit 0 is the least significant). -/

namespace Sys2Proof

/-- A byte, `0 .. 255` (R5). -/
abbrev Byte := BitVec 8

/-- A 16-bit value: the CRC register and the 2-byte fields (R5, R29). -/
abbrev Half := BitVec 16

/-- A 32-bit device identifier (R57). -/
abbrev DevId := BitVec 32

end Sys2Proof
end

