-- ==== Sys2Proof/Config.lean ====
section
/-! DEFINITION. The implementation parameters of spec/00_scope.md R4: the fixed ones as constants, the OPEN ones as
the fields of one record, and the reference configuration `refCfg` (R4: `REFCFG`). No value of `refCfg` is a fact
about the hardware (spec/91_not_in_source.md N2); the state holds the record, so that a statement about every state
is a statement about every configuration. One free value stands here too. -/

namespace Sys2Proof

/-- A timestamp, the OPEN type `TS` of R4, of which the spec says only that it has decidable equality: no number, no
order, no width (N4 of spec/91_not_in_source.md). DESIGN CHOICE (log 10): a state is plain data, so a timestamp is
written as a token, a byte string that no definition reads; the block commutes with every renaming of the tokens. -/
structure TS where
  token : List Byte
  deriving DecidableEq, Repr

/-- `FIELD_LAYOUT` (R4); `bcdSwapped` is named by the source and not described, so it is refused (R137 item 8). -/
inductive FieldLayout where
  | plainHex
  | bcdSwapped
  deriving DecidableEq, Repr

/-- `CRC_CHECK` (R4); `enforcing` is refused (R137 item 8). -/
inductive CrcCheck where
  | passive
  | enforcing
  deriving DecidableEq, Repr

/-- The parameters of R4 that are constant after construction, but for the capacity `C`, which RESET supplies. -/
structure Cfg where
  offTech : Nat
  offAccount : Nat
  offEventCode : Nat
  offPartition : Nat
  offZone : Nat
  maxLen : Nat
  fieldLayout : FieldLayout
  crcCheck : CrcCheck
  deriving DecidableEq, Repr

namespace Config

/-- `CRC_POLY` (R4). -/
def crcPoly : Half := 0x1021#16
/-- `CRC_INIT` (R4). -/
def crcInitValue : Half := 0xFFFF#16
/-- `LEN_HB` (R4). -/
def lenHb : Nat := 18
/-- `LEN_EV` (R4). -/
def lenEv : Nat := 30
/-- `ACK_MIN_IN` (R4). -/
def ackMinIn : Nat := 12
/-- `OFF_DEVID` (R4). -/
def offDevId : Nat := 4
/-- `OFF_CHANNEL` (R4). -/
def offChannel : Nat := 10
/-- `OFF_CMD` (R4). -/
def offCmd : Nat := 11
/-- FREE VALUE (log 17): the 16 bits of `DEC.info` for a payload length that has more, which the spec does not state. -/
opaque wideInfo : Nat → Half
/-- The capacity when RESET is given none (R4, R139). -/
def defaultCapacity : Nat := 500

/-- `REFCFG`, the defaults of the OPEN parameters (R4). -/
def refCfg : Cfg where
  offTech := 11
  offAccount := 12
  offEventCode := 14
  offPartition := 16
  offZone := 17
  maxLen := 65535
  fieldLayout := .plainHex
  crcCheck := .passive

end Config

end Sys2Proof
end

