-- ==== Sys2Proof/Machine/Records.lean ====
section
/-! DEFINITION. The records and typed outcomes of the block (spec/00_scope.md R8, spec/30_encoding.md R57 to R60):
the decoded packet, the presence entry, the outcomes of the operations. R60: "a model should use an enumeration type,
not the numbers"; the numbers are views (Machine/Flags.lean). -/

namespace Sys2Proof.Machine

/-- The fields every decoded packet has (R57). -/
structure CommonFields where
  deviceId : DevId
  channel : Byte
  technology : Byte
  crc16 : Half
  raw : List Byte
  deriving DecidableEq, Repr

/-- The fields of an event packet only (R57); `zone` is a natural `0 .. 9999` (14 bits). -/
structure EventFields where
  account : Half
  eventCode : Half
  partition : Byte
  zone : Nat
  deriving DecidableEq, Repr

/-- A QueuedEvent: a decoded packet of kind Event, nothing added (R59). -/
structure QueuedEvent where
  common : CommonFields
  fields : EventFields
  deriving DecidableEq, Repr

/-- The kind of a packet (R57). -/
inductive Kind where
  | heartbeat
  | event
  deriving DecidableEq, Repr

/-- A DecodedPacket (R57): the event fields hold a value only when the kind is Event. -/
inductive DecodedPacket where
  | heartbeat (c : CommonFields)
  | event (e : QueuedEvent)
  deriving DecidableEq, Repr

/-- The four errors of the parser, each with its payload (R8, R121, R122). -/
inductive DecodeError where
  | emptyPayload
  | invalidLength (len : Nat)
  | invalidBcd (byte : Byte)
  | invalidEventCode (code : Half)
  deriving DecidableEq, Repr

/-- `DecodeOutcome` (R8): the value of the outputs `DEC.status`, `DEC.info`, `DEC.pkt`. -/
inductive DecodeOutcome where
  | ok (pkt : DecodedPacket)
  | error (e : DecodeError)
  deriving DecidableEq, Repr

/-- The five error outcomes of the block, by the unit that raises them (R121, R122). -/
inductive BlockError where
  | decode (e : DecodeError)
  | payloadTooShort
  deriving DecidableEq, Repr

/-- `AckOutcome` (R8): the value of the outputs `ACK.status`, `ACK.buf`. -/
inductive AckOutcome where
  | ok (frame : List Byte)
  | payloadTooShort
  deriving DecidableEq, Repr

/-- `PopOutcome` (R8): the value of the outputs `POP.status`, `POP.event`. -/
inductive PopOutcome where
  | empty
  | event (e : QueuedEvent)
  deriving DecidableEq, Repr

/-- A presence entry (R24, R58). -/
structure PresenceEntry where
  lastSeenAt : TS
  online : Bool
  deriving DecidableEq, Repr

/-- `QueryOutcome` (R8): the value of the outputs `QRY.status`, `QRY.entry`, the entry read out with its key (R58). -/
inductive QueryOutcome where
  | absent
  | present (deviceId : DevId) (entry : PresenceEntry)
  deriving DecidableEq, Repr

/-- `SinkAnswer` (R8, R118). -/
inductive SinkAnswer where
  | success
  | failure
  deriving DecidableEq, Repr

/-- What one RX.FRAME returns (R113): the two outcomes side by side and the discards of its push, 0 without one. -/
structure FrameResult where
  dec : DecodeOutcome
  ack : AckOutcome
  discards : Nat
  deriving DecidableEq, Repr

/-- The receive operand `RXBUF` (R16); `RXBUF.len` is the number of bytes of `data`. -/
structure RxBuf where
  present : Bool
  data : List Byte
  now : TS
  deriving DecidableEq, Repr

/-- `RXBUF.len` (R16). -/
def RxBuf.len (b : RxBuf) : Nat := b.data.length

/-- A CRC register and whether it holds a defined value: a CRC.INIT has been issued since reset (R29, R146, U13). -/
structure CrcReg where
  value : Half
  defined : Bool
  deriving DecidableEq, Repr

/-- A finite map as a list of (key, value) pairs; canonical when the keys strictly rise. -/
abbrev KeyMap (α : Type) := List (Nat × α)

/-- The agents (R10, R133); the readers are numbered. -/
inductive Agent where
  | rx
  | wk
  | qr (reader : Nat)
  | host
  deriving DecidableEq, Repr

/-- The twelve operations (R63), named to say which of them are in progress. -/
inductive Op where
  | crcInit | crcByte | crcCompute | decDecode | ackBuild | evqPush | evqTryPop
  | presRecHb | presQuery | rxFrame | wkStep | reset
  deriving DecidableEq, Repr

/-- Where the RX sequencer stands between two steps (R10: RX.FRAME is a short sequence of steps; R113): waiting for its
next datagram, or with step 1, or with steps 1 and 2 of RX.FRAME done, and what these answered (DEDUCED, log 11). -/
inductive RxStage where
  | waiting
  | decoded (d : DecodeOutcome)
  | routed (d : DecodeOutcome) (discards : Nat)
  deriving DecidableEq, Repr

/-- Where the WK sequencer stands (R10, R117): about to poll, or with a popped event at the sink (DEDUCED, log 11). -/
inductive WkStage where
  | polling
  | submitting (e : QueuedEvent)
  deriving DecidableEq, Repr

end Sys2Proof.Machine
end

