-- ==== Sys2Proof/Machine/Operands.lean ====
section
/-! DEFINITION. Reading fields out of a byte sequence (spec/20_memory.md R31 to R36, spec/30_encoding.md R54 to R56),
the BCD and event-code tests (spec/41_decode.md R83 to R85), the configuration's constraints (spec/00_scope.md R4). -/

namespace Sys2Proof.Machine

/-- `p[k]` (R5). Every use is at an offset below `len(p)` (R36). -/
def byteAt (p : List Byte) (k : Nat) : Byte := p.getD k 0

/-- `be16(p, k) = p[k] ‖ p[k+1]` (R6, R31). -/
def be16 (p : List Byte) (k : Nat) : Half := byteAt p k ++ byteAt p (k + 1)

/-- `be32(p, k)` (R6, R33). -/
def be32 (p : List Byte) (k : Nat) : DevId := be16 p k ++ be16 p (k + 2)

/-- `v[15:8]` (R5). -/
def hiByte (v : Half) : Byte := v.extractLsb' 8 8

/-- `v[7:0]` (R5). -/
def loByte (v : Half) : Byte := v.extractLsb' 0 8

/-- `b[7:4]` (R5). -/
def hiNibble (b : Byte) : BitVec 4 := b.extractLsb' 4 4

/-- `b[3:0]` (R5). -/
def loNibble (b : Byte) : BitVec 4 := b.extractLsb' 0 4

/-- `bcd(b)` (R55), `none` when a nibble exceeds 9. -/
def bcd (b : Byte) : Option Nat :=
  if (hiNibble b).toNat ≤ 9 ∧ (loNibble b).toNat ≤ 9 then
    some (10 * (hiNibble b).toNat + (loNibble b).toNat)
  else none

/-- The zone of its two bytes, the one at the lower offset first (R56, R83, R84), or the first byte that is not BCD. -/
def zoneOf (zh zl : Byte) : Except Byte Nat :=
  match bcd zh, bcd zl with
  | none, _ => .error zh
  | some _, none => .error zl
  | some h, some l => .ok (100 * h + l)

/-- `event_code[15:12]` is 1, 3 or 6 (R85). -/
def eventCodeOk (code : Half) : Bool :=
  code.extractLsb' 12 4 = 1#4 || code.extractLsb' 12 4 = 3#4 || code.extractLsb' 12 4 = 6#4

/-- The constraints of R4 on the OPEN parameters. -/
def cfgValid (c : Cfg) : Bool :=
  c.offTech ≤ 15 && c.offAccount + 2 ≤ 28 && c.offEventCode + 2 ≤ 28 && c.offPartition + 1 ≤ 28
    && c.offZone + 2 ≤ 28 && 30 ≤ c.maxLen

/-- What the data model says of a decoded event (R12, R59, R89): 30 raw bytes, a leading digit 1, 3 or 6, a zone of
at most 9999. -/
def eventValid (e : QueuedEvent) : Bool :=
  e.common.raw.length = Config.lenEv && eventCodeOk e.fields.eventCode && e.fields.zone ≤ 9999

end Sys2Proof.Machine
end

