-- ==== Sys2Proof/Syntax.lean ====
section
/-! DEFINITION. The operations of the block as one inductive (spec/30_encoding.md R63, R61, R62; one constructor per
row of spec/opcode_table.json), with the operands the transaction notation of R67 gives them, and the transaction
word a port carries. RXBUF is not an operand written into an instruction: DEC.DECODE, ACK.BUILD and RX.FRAME read
the buffer of that name (R16). -/

namespace Sys2Proof

open Sys2Proof.Machine

/-- The byte sequence of a CRC.COMPUTE: given by the caller, or RXBUF.data (R16 "when used on it"). -/
inductive ByteSource where
  | given (bytes : List Byte)
  | rxbuf
  deriving DecidableEq, Repr

inductive Instr where
  /-- `CRC.INIT` (R69). -/
  | crcInit
  /-- `CRC.BYTE b` (R71). -/
  | crcByte (b : Byte)
  /-- `CRC.COMPUTE bytes, offset, length` (R72). -/
  | crcCompute (bytes : ByteSource) (offset length : Nat)
  /-- `DEC.DECODE` on RXBUF (R76). -/
  | decDecode
  /-- `ACK.BUILD` on RXBUF (R92). -/
  | ackBuild
  /-- `EVQ.PUSH e` (R99). -/
  | evqPush (e : QueuedEvent)
  /-- `EVQ.TRYPOP` (R100). -/
  | evqTryPop
  /-- `PRES.RECHB id, now` (R108). -/
  | presRecHb (id : DevId) (now : TS)
  /-- `PRES.QUERY id` (R110). -/
  | presQuery (id : DevId)
  /-- `RX.FRAME` on RXBUF (R113). -/
  | rxFrame
  /-- `WK.STEP` with the sink's answer, a draw (R117, R118). -/
  | wkStep (sink : SinkAnswer)
  /-- `RESET C`, 500 when none is given (R139). -/
  | reset (c : Option Nat)
  /-- Row RXCLASS.ABSENT: no payload (R61, R77). -/
  | rxClassAbsent
  /-- Row RXCLASS.HEARTBEAT: a payload of 18 bytes (R61, R78). -/
  | rxClassHeartbeat (payload : List Byte)
  /-- Row RXCLASS.EVENT: a payload of 30 bytes (R61, R78). -/
  | rxClassEvent (payload : List Byte)
  /-- Row RXCLASS.BADLEN: a payload of any other length (R61, R78). -/
  | rxClassBadLen (len : Half)
  /-- Row HB18: an inbound heartbeat frame (R50, R81). -/
  | hb18 (frame : List Byte)
  /-- Row EV30: an inbound event frame (R51, R82). -/
  | ev30 (frame : List Byte)
  /-- Row ACK18.FLAGS_18: the acknowledgement when `in[11] = 0`, for `in[4..7]`, `in[8..9]`, `in[10]` (R62, R94). -/
  | ackFlags18 (device : DevId) (frameId : Half) (channel : Byte)
  /-- Row ACK18.FLAGS_08: the acknowledgement when `in[11]`, here `command`, is not 0 (R62, R94). -/
  | ackFlags08 (command : Byte) (device : DevId) (frameId : Half) (channel : Byte)
  deriving DecidableEq, Repr

/-- The ports a transaction arrives at, one per format of spec/opcode_table.json (R63: "an operation is selected by
the port an agent uses"; DESIGN CHOICE, log 6). -/
inductive Port where
  /-- Format PORTOP: the word is the OPID in one byte. -/
  | operation
  /-- Format RXCLASS: the word is the 16-bit length, low byte first; `present` is the bit RXBUF.present. -/
  | frameClass (present : Bool)
  /-- Formats HB18 and EV30: the word is the frame. -/
  | frame
  /-- Format ACK18: the word is the selector byte `in[11]`. -/
  | ackSelector
  deriving DecidableEq, Repr

/-- The operand lanes beside a transaction word: typed values, since the spec gives no operand a bit of a word. -/
structure Lanes where
  byte : Byte
  source : ByteSource
  offset : Nat
  length : Nat
  event : QueuedEvent
  id : DevId
  now : TS
  sink : SinkAnswer
  capacity : Option Nat
  payload : List Byte
  frameId : Half
  channel : Byte
  deriving DecidableEq, Repr

/-- One transaction as a port carries it. -/
structure Wire where
  port : Port
  word : List Byte
  lanes : Lanes
  deriving DecidableEq, Repr

/-- The circumstances of a transaction that the concurrency contract speaks of (R131, R137; DESIGN CHOICE, log 2):
who issues it, which operations are in progress beside it, and whether RXBUF keeps still meanwhile. -/
structure Issue where
  agent : Agent
  inProgress : List Op
  rxStable : Bool
  deriving DecidableEq, Repr

/-- What the environment presents next (DESIGN CHOICE, log 1): the external receive loop hands over a datagram in RXBUF
(R16); the RX or the WK sequencer is scheduled for one step of its RX.FRAME or WK.STEP (R10, R113, R117), the sink's
answer a draw (R118); or an agent issues one operation as a transaction. -/
inductive Input where
  | deliver (rx : RxBuf)
  | rxTurn
  | wkTurn (sink : SinkAnswer)
  | request (issue : Issue) (wire : Wire)
  deriving DecidableEq, Repr

end Sys2Proof
end

