-- ==== Sys2Proof/WellFormed.lean ====
section
/-! DEFINITION. Which instruction terms have operands of the type the spec gives them: a QueuedEvent meets the data
model (spec/30_encoding.md R59, spec/41_decode.md R89), a frame of a class or a format has the length that makes it
one (R50, R51, R61), and FLAGS_08 stands for a command byte that is not zero (R62). -/

namespace Sys2Proof

open Sys2Proof.Machine

def Instr.wf : Instr → Bool
  | .crcInit => true
  | .crcByte _ => true
  | .crcCompute _ _ _ => true
  | .decDecode => true
  | .ackBuild => true
  | .evqPush e => eventValid e
  | .evqTryPop => true
  | .presRecHb _ _ => true
  | .presQuery _ => true
  | .rxFrame => true
  | .wkStep _ => true
  | .reset _ => true
  | .rxClassAbsent => true
  | .rxClassHeartbeat p => p.length = Config.lenHb
  | .rxClassEvent p => p.length = Config.lenEv
  | .rxClassBadLen n => n.toNat ≠ Config.lenHb && n.toNat ≠ Config.lenEv
  | .hb18 p => p.length = Config.lenHb
  | .ev30 p => p.length = Config.lenEv
  | .ackFlags18 _ _ _ => true
  | .ackFlags08 cmd _ _ _ => cmd ≠ 0#8

end Sys2Proof
end

