-- ==== Sys2Proof/Decode.lean ====
section
/-! DEFINITION. From a transaction word to an instruction (spec/30_encoding.md R61 to R63, the rows of
spec/opcode_table.json), total and rejecting by name; after it the encoder, and the two inbound frame formats laid
out from their fields (R50, R51). DESIGN CHOICE (log 6, log 7): the spec gives an operation a number, OPID, and no
word, so the word of format PORTOP is the OPID in one byte and the operands stand on typed lanes beside it. -/

namespace Sys2Proof

open Sys2Proof.Machine

/-- Why a word is no instruction. -/
inductive DecodeReject where
  /-- OPID 12 to 15: R63 names twelve operations. -/
  | unknownOpid (opid : Nat)
  /-- A word of a length its port does not carry. -/
  | wordLength (port : Port) (bytes : Nat)
  deriving DecidableEq, Repr

/-- Format PORTOP (R63): `match` = OPID, `mask` = `0xF`, so the four low bits of the byte count. -/
def decodeOperation (word : List Byte) (l : Lanes) : Except DecodeReject Instr :=
  match word with
  | [b] =>
    match b.toNat % 16 with
    | 0 => .ok .crcInit
    | 1 => .ok (.crcByte l.byte)
    | 2 => .ok (.crcCompute l.source l.offset l.length)
    | 3 => .ok .decDecode
    | 4 => .ok .ackBuild
    | 5 => .ok (.evqPush l.event)
    | 6 => .ok .evqTryPop
    | 7 => .ok (.presRecHb l.id l.now)
    | 8 => .ok (.presQuery l.id)
    | 9 => .ok .rxFrame
    | 10 => .ok (.wkStep l.sink)
    | 11 => .ok (.reset l.capacity)
    | n => .error (.unknownOpid n)
  | w => .error (.wordLength .operation w.length)

/-- Format RXCLASS (R61): the key is the bit `present` and the 16-bit length; the classes are tested in the order
ABSENT, HEARTBEAT, EVENT, BADLEN. -/
def decodeClass (present : Bool) (word : List Byte) (l : Lanes) : Except DecodeReject Instr :=
  if present then
    match word with
    | [lo, hi] =>
      if (hi ++ lo : Half) = 0x0012#16 then .ok (.rxClassHeartbeat l.payload)
      else if (hi ++ lo : Half) = 0x001E#16 then .ok (.rxClassEvent l.payload)
      else .ok (.rxClassBadLen (hi ++ lo))
    | w => .error (.wordLength (.frameClass true) w.length)
  else .ok .rxClassAbsent

/-- Formats HB18 and EV30: a frame is recognised by its length alone (R50, R51, R66). -/
def decodeFrame (word : List Byte) : Except DecodeReject Instr :=
  if word.length = Config.lenHb then .ok (.hb18 word)
  else if word.length = Config.lenEv then .ok (.ev30 word)
  else .error (.wordLength .frame word.length)

/-- Format ACK18 (R62): `match 0x00, mask 0xFF` on `in[11]` selects FLAGS_18, every other value FLAGS_08. -/
def decodeAckSelector (word : List Byte) (l : Lanes) : Except DecodeReject Instr :=
  match word with
  | [sel] =>
    if sel = 0#8 then .ok (.ackFlags18 l.id l.frameId l.channel)
    else .ok (.ackFlags08 sel l.id l.frameId l.channel)
  | w => .error (.wordLength .ackSelector w.length)

/-- The instruction a transaction carries. -/
def decode (x : Wire) : Except DecodeReject Instr :=
  match x.port with
  | .operation => decodeOperation x.word x.lanes
  | .frameClass present => decodeClass present x.word x.lanes
  | .frame => decodeFrame x.word
  | .ackSelector => decodeAckSelector x.word x.lanes

/-! ## The encoder -/

/-- Lanes nothing is put on. The event lane carries the least event of the data model (log 7). -/
def Lanes.idle : Lanes where
  byte := 0#8
  source := .given []
  offset := 0
  length := 0
  event :=
    { common := ⟨0#32, 0#8, 0#8, 0#16, List.replicate 30 0#8⟩
      fields := ⟨0#16, 0x1000#16, 0#8, 0⟩ }
  id := 0#32
  now := ⟨[]⟩
  sink := .success
  capacity := none
  payload := []
  frameId := 0#16
  channel := 0#8

/-- A transaction of format PORTOP. -/
def opWire (opid : Byte) (l : Lanes) : Wire := ⟨.operation, [opid], l⟩

/-- The word of a length at the RXCLASS port, low byte first. -/
def lenWord (len : Half) : List Byte := [loByte len, hiByte len]

/-- The transaction that carries an instruction. -/
def encode : Instr → Wire
  | .crcInit => opWire 0#8 .idle
  | .crcByte b => opWire 1#8 { Lanes.idle with byte := b }
  | .crcCompute src off len => opWire 2#8 { Lanes.idle with source := src, offset := off, length := len }
  | .decDecode => opWire 3#8 .idle
  | .ackBuild => opWire 4#8 .idle
  | .evqPush e => opWire 5#8 { Lanes.idle with event := e }
  | .evqTryPop => opWire 6#8 .idle
  | .presRecHb id now => opWire 7#8 { Lanes.idle with id := id, now := now }
  | .presQuery id => opWire 8#8 { Lanes.idle with id := id }
  | .rxFrame => opWire 9#8 .idle
  | .wkStep a => opWire 10#8 { Lanes.idle with sink := a }
  | .reset c => opWire 11#8 { Lanes.idle with capacity := c }
  | .rxClassAbsent => ⟨.frameClass false, [], .idle⟩
  | .rxClassHeartbeat p => ⟨.frameClass true, lenWord 0x0012#16, { Lanes.idle with payload := p }⟩
  | .rxClassEvent p => ⟨.frameClass true, lenWord 0x001E#16, { Lanes.idle with payload := p }⟩
  | .rxClassBadLen len => ⟨.frameClass true, lenWord len, .idle⟩
  | .hb18 f => ⟨.frame, f, .idle⟩
  | .ev30 f => ⟨.frame, f, .idle⟩
  | .ackFlags18 d i c => ⟨.ackSelector, [0#8], { Lanes.idle with id := d, frameId := i, channel := c }⟩
  | .ackFlags08 cmd d i c => ⟨.ackSelector, [cmd], { Lanes.idle with id := d, frameId := i, channel := c }⟩

/-! ## The inbound frame formats laid out from their fields -/

/-- Two bytes at offset `k`, the more significant first (R31). -/
def put16 (p : List Byte) (k : Nat) (v : Half) : List Byte := (p.set k (hiByte v)).set (k + 1) (loByte v)

/-- Four bytes at offset `k`, the most significant first (R33). -/
def put32 (p : List Byte) (k : Nat) (v : DevId) : List Byte :=
  put16 (put16 p k (v.extractLsb' 16 16)) (k + 2) (v.extractLsb' 0 16)

/-- The BCD byte of a number below 100 (R55). -/
def bcdByte (n : Nat) : Byte := BitVec.ofNat 8 (16 * (n / 10) + n % 10)

/-- The fields common to both formats, laid into `base`: identifier, channel, technology (R50). -/
def layoutCommon (c : Cfg) (base : List Byte) (f : CommonFields) : List Byte :=
  ((put32 base Config.offDevId f.deviceId).set Config.offChannel f.channel).set c.offTech f.technology

/-- An HB18 frame with these fields, the unnamed bytes from `base` (R50). -/
def layoutHeartbeat (c : Cfg) (base : List Byte) (f : CommonFields) : List Byte :=
  put16 (layoutCommon c base f) 16 f.crc16

/-- An EV30 frame with these fields, the unnamed bytes from `base` (R51). -/
def layoutEvent (c : Cfg) (base : List Byte) (f : CommonFields) (g : EventFields) : List Byte :=
  let p := layoutCommon c base f
  let p := put16 p c.offAccount g.account
  let p := put16 p c.offEventCode g.eventCode
  let p := p.set c.offPartition g.partition
  let p := (p.set c.offZone (bcdByte (g.zone / 100))).set (c.offZone + 1) (bcdByte (g.zone % 100))
  put16 p 28 f.crc16

/-! ## The words of spec/opcode_table.json -/

/-- `n` bytes of a number, the least significant first: the byte of the number's low bits stands at offset 0. DESIGN
CHOICE (log 7): R5 and R53 draw a frame with offset 0 leftmost and give a frame row no number. -/
def bytesOf : Nat → Nat → List Byte
  | 0, _ => []
  | n + 1, w => BitVec.ofNat 8 w :: bytesOf n (w / 256)

/-- A table row's bits as its port carries them, operands zero (DESIGN CHOICE, log 7): 8 bits are an OPID, 16 bits a
length with a present payload of that many zero bytes, anything else a frame whose offset 0 is the number's least
significant byte and whose last offset is its most significant byte. -/
def wireOfTable (nbits w : Nat) : Wire :=
  if nbits = 8 then ⟨.operation, bytesOf 1 w, .idle⟩
  else if nbits = 16 then ⟨.frameClass true, bytesOf 2 w, { Lanes.idle with payload := List.replicate (w % 65536) 0#8 }⟩
  else ⟨.frame, bytesOf (nbits / 8) w, .idle⟩

/-- The instruction the decoder reads from a table row's bits. -/
def decodeTableWord (nbits w : Nat) : Option Instr :=
  match decode (wireOfTable nbits w) with
  | .ok i => some i
  | .error _ => none

end Sys2Proof
end

