-- ==== Sys2Proof/Machine/Checksum.lean ====
section
/-! DEFINITION. CRC-16 as functions on a register value (spec/40_crc16.md R69 to R72). -/

namespace Sys2Proof.Machine

/-- `crc_round(r)` (R70): the high bit tested is bit 15 before the shift. -/
def crcRound (r : Half) : Half := if r.getLsbD 15 then (r <<< 1) ^^^ Config.crcPoly else r <<< 1

/-- `n` rounds (R71 repeats 8 times). -/
def crcRounds : Nat → Half → Half
  | 0, r => r
  | n + 1, r => crcRounds n (crcRound r)

/-- One byte folded into the register (R71): XORed into bits 15..8, then eight rounds. -/
def crcFold (r : Half) (b : Byte) : Half := crcRounds 8 (r ^^^ (b.setWidth 16 <<< 8))

/-- The bytes of a sequence folded in increasing offset order, from a register value (R72, R75). -/
def crcFrom (r : Half) (bytes : List Byte) : Half := bytes.foldl crcFold r

/-- `CRC.COMPUTE(bytes, offset, length)` of a range that lies inside `bytes` (R72). -/
def crcRange (bytes : List Byte) (offset length : Nat) : Half :=
  crcFrom Config.crcInitValue ((bytes.drop offset).take length)

end Sys2Proof.Machine
end

