-- ==== Sys2Proof/Machine/Flags.lean ====
section
/-! DEFINITION. The block has no condition codes (spec/10_state.md R18); its status values are the outcomes' numeric
codes (spec/30_encoding.md R60, spec/60_exceptions.md R122), computed here from the typed outcomes, and the flags
byte of the acknowledgement (R62, R94). -/

namespace Sys2Proof.Machine

/-- `kind` as its bit (R57). -/
def kindCode : Kind → BitVec 1
  | .heartbeat => 0#1
  | .event => 1#1

/-- `kind` of a packet (R57). -/
def DecodedPacket.kind : DecodedPacket → Kind
  | .heartbeat _ => .heartbeat
  | .event _ => .event

/-- The common fields of a packet (R57). -/
def DecodedPacket.common : DecodedPacket → CommonFields
  | .heartbeat c => c
  | .event e => e.common

/-- `DEC.status` (R60); 5 to 7 are never produced. -/
def decStatus : DecodeOutcome → BitVec 3
  | .ok _ => 0#3
  | .error .emptyPayload => 1#3
  | .error (.invalidLength _) => 2#3
  | .error (.invalidBcd _) => 3#3
  | .error (.invalidEventCode _) => 4#3

/-- `DEC.info`, 16 bits, where the outcome has a payload (R60); a longer length's is a free value (log 17). -/
def decInfo : DecodeOutcome → Option Half
  | .ok _ => none
  | .error .emptyPayload => none
  | .error (.invalidLength n) => some (if n < 65536 then BitVec.ofNat 16 n else Config.wideInfo n)
  | .error (.invalidBcd b) => some (b.setWidth 16)
  | .error (.invalidEventCode c) => some c

/-- `DEC.pkt`, valid only when the status is 0 (R16). -/
def decPkt : DecodeOutcome → Option DecodedPacket
  | .ok p => some p
  | .error _ => none

/-- `ACK.status` (R60). -/
def ackStatus : AckOutcome → BitVec 1
  | .ok _ => 0#1
  | .payloadTooShort => 1#1

/-- `ACK.buf`, valid only when the status is 0 (R16). -/
def ackBuf : AckOutcome → Option (List Byte)
  | .ok f => some f
  | .payloadTooShort => none

/-- `POP.status` (R60). -/
def popStatus : PopOutcome → BitVec 1
  | .empty => 0#1
  | .event _ => 1#1

/-- `POP.event`, valid only when the status is 1 (R16). -/
def popEvent : PopOutcome → Option QueuedEvent
  | .empty => none
  | .event e => some e

/-- `QRY.status` (R60). -/
def qryStatus : QueryOutcome → BitVec 1
  | .absent => 0#1
  | .present _ _ => 1#1

/-- `QRY.entry`, valid only when the status is 1 (R16). -/
def qryEntry : QueryOutcome → Option PresenceEntry
  | .absent => none
  | .present _ e => some e

/-- The flags byte at offset 3 of the acknowledgement, from `in[11]` (R62, R94). -/
def ackFlags (command : Byte) : Byte := if command = 0x00#8 then 0x18#8 else 0x08#8

end Sys2Proof.Machine
end

