-- ==== Sys2Proof/Machine/AckFrame.lean ====
section
/-! DEFINITION. The acknowledgement frame, format ACK18 (spec/30_encoding.md R52, spec/42_ack.md R92 to R96). -/

namespace Sys2Proof.Machine

/-- Offsets 0 to 15 of the frame, from `in[11]` and the seven bytes `in[4..10]` (R94, R95, R96). -/
def ackHeader (command : Byte) (copied : List Byte) : List Byte :=
  [0x21#8, 0x02#8, 0x01#8, ackFlags command] ++ copied ++ [0x01#8, 0x99#8, 0x05#8, 0x00#8, 0x00#8]

/-- The seven bytes `in[4..10]` from the device identifier, the frame id and the channel (R52). -/
def copiedBytes (device : DevId) (frameId : Half) (channel : Byte) : List Byte :=
  [hiByte (device.extractLsb' 16 16), loByte (device.extractLsb' 16 16), hiByte (device.extractLsb' 0 16),
    loByte (device.extractLsb' 0 16), hiByte frameId, loByte frameId, channel]

/-- The checksum of offsets 0 to 15 (R96). -/
def ackSum (header : List Byte) : Half := crcRange header 0 16

/-- The whole frame: the checksum goes to offsets 16 and 17, high byte first (R92, R96). -/
def ackSeal (header : List Byte) : List Byte := header ++ [hiByte (ackSum header), loByte (ackSum header)]

/-- The header ACK.BUILD makes of a receive operand, none when it is absent or shorter than 12 bytes (R92, R93). -/
def headerOf (rx : RxBuf) : Option (List Byte) :=
  if !rx.present || rx.len < Config.ackMinIn then none
  else some (ackHeader (byteAt rx.data Config.offCmd)
    [byteAt rx.data 4, byteAt rx.data 5, byteAt rx.data 6, byteAt rx.data 7, byteAt rx.data 8,
      byteAt rx.data 9, byteAt rx.data 10])

/-- The outcome of ACK.BUILD on a receive operand (R92). -/
def ackOutcome (rx : RxBuf) : AckOutcome :=
  match headerOf rx with
  | none => .payloadTooShort
  | some h => .ok (ackSeal h)

end Sys2Proof.Machine
end

