-- ==== Sys2Proof/Machine/Parse.lean ====
section
/-! DEFINITION. The seven steps of DEC.DECODE as a function of the receive operand (spec/41_decode.md R76 to R85) and
the classification of spec/30_encoding.md R61. -/

namespace Sys2Proof.Machine

/-- The four classes of R61. -/
inductive FrameClass where
  | absent
  | heartbeat
  | event
  | badLen
  deriving DecidableEq, Repr

/-- Steps 1 and 2 (R61, R77, R78): the bit `present` and the length decide, no byte of the payload takes part. -/
def classify (present : Bool) (len : Nat) : FrameClass :=
  if !present then .absent
  else if len = Config.lenHb then .heartbeat
  else if len = Config.lenEv then .event
  else .badLen

/-- Steps 3 and 4 (R79, R80) and the copy `raw` (R90). -/
def commonFields (c : Cfg) (p : List Byte) : CommonFields where
  deviceId := be32 p Config.offDevId
  channel := byteAt p Config.offChannel
  technology := byteAt p c.offTech
  crc16 := be16 p (p.length - 2)
  raw := p

/-- Step 5 (R81): a heartbeat has no further field. -/
def parseHeartbeat (c : Cfg) (p : List Byte) : DecodeOutcome := .ok (.heartbeat (commonFields c p))

/-- Steps 6 and 7 (R82 to R85): the event fields, the two BCD bytes before the event code. -/
def parseEvent (c : Cfg) (p : List Byte) : DecodeOutcome :=
  match zoneOf (byteAt p c.offZone) (byteAt p (c.offZone + 1)) with
  | .error b => .error (.invalidBcd b)
  | .ok zone =>
    if eventCodeOk (be16 p c.offEventCode) then
      .ok (.event
        { common := commonFields c p
          fields :=
            { account := be16 p c.offAccount
              eventCode := be16 p c.offEventCode
              partition := byteAt p c.offPartition
              zone := zone } })
    else .error (.invalidEventCode (be16 p c.offEventCode))

/-- The outcome of DEC.DECODE on a receive operand (R76); `len` and `data` are not read when it is absent (R77). -/
def decodeRx (c : Cfg) (rx : RxBuf) : DecodeOutcome :=
  match classify rx.present rx.len with
  | .absent => .error .emptyPayload
  | .heartbeat => parseHeartbeat c rx.data
  | .event => parseEvent c rx.data
  | .badLen => .error (.invalidLength rx.len)

end Sys2Proof.Machine
end

