-- ==== Sys2Proof/Machine/State.lean ====
section
/-! DEFINITION. The state of the block as plain data (spec/10_state.md R15, R16, R23, R24, R27, R29), the ways a step
can stop, and the state after reset (R27, spec/70_reset_and_hazards.md R139, R140). -/

namespace Sys2Proof.Machine

/-- There is no fault: "The block has no fault, no trap, no machine check and no way to hang" (R124). -/
inductive Fault : Type
  deriving DecidableEq, Repr

/-- The situations the model gives no step (R137 and spec/93_implementation_defined.md U1 to U7, U13). Each is safe:
the model stops where the hardware would do something no rule determines. -/
inductive Refusal where
  /-- An operation without a meaning in the model; raised by no arm of exec. Safe. -/
  | notModelled (mnemonic : String)
  /-- Raised by step: the word at the port is no instruction of R63 (OPID 12 to 15, a wrong length). Safe. -/
  | undecodable
  /-- Raised by the meanings whose operands can fail `Instr.wf`: the operand is no QueuedEvent, no frame of the format,
  no command byte of the row (R59, R61, R62). Safe. -/
  | illFormedOperand
  /-- Raised by step: a transaction of an agent that is inside its RX.FRAME or WK.STEP; "an agent does not start an
  operation before its previous one has ended" (R43), so no run of the block has this schedule. Safe. -/
  | agentBusy
  /-- Raised by every meaning but the CRC's: an agent whose role does not allow the operation (R131, U2). Safe. -/
  | wrongAgent
  /-- Raised by EVQ.PUSH and RX.FRAME: another push is in progress (R46, R137 item 2). Safe. -/
  | concurrentPush
  /-- Raised by EVQ.TRYPOP and WK.STEP: another pop is in progress (R46, R137 item 2). Safe. -/
  | concurrentPop
  /-- Raised by PRES.RECHB and RX.FRAME: another writer of PRES is in progress (R112, R144). Safe. -/
  | concurrentRecord
  /-- Raised by the meanings that read RXBUF, and by a delivery inside an RX.FRAME: RXBUF changes during the operation
  (R47, R145, R137 item 3). Safe. -/
  | rxbufChanged
  /-- Raised by RESET beside any operation, and by any operation beside a RESET (R141, R137 item 4, U7). Safe. -/
  | resetOverlap
  /-- Raised by the meanings that read RXBUF, and by RXCLASS.BADLEN: a length above MAXLEN (R137 item 5). Safe. -/
  | payloadTooLong
  /-- Raised by every meaning: a configuration outside R4's constraints (R137 item 6, U5). Safe. -/
  | badConfiguration
  /-- Raised by RESET: `C = 0` (R137 item 6, U5). Safe. -/
  | zeroCapacity
  /-- Raised by every meaning: `FIELD_LAYOUT = BcdSwapped` (R137 item 8, U3). Safe. -/
  | swappedLayout
  /-- Raised by every meaning: `CRC_CHECK = Enforcing` (R137 item 8, U4). Safe. -/
  | enforcingCrc
  /-- Raised by CRC.COMPUTE: `offset + length > len(bytes)` (R37, R137 item 1, U1). Safe. -/
  | crcRange
  /-- Raised by CRC.COMPUTE on RXBUF when no payload is present (R36: "none reads it when RXBUF.present = 0"). Safe. -/
  | noPayload
  /-- Raised by CRC.BYTE: no CRC.INIT since reset; U13 of spec/93: "A direct `CRC.BYTE` before any `CRC.INIT` is
  outside the contract of 70_reset_and_hazards.md rule R146 and is `refuse`d". Safe. -/
  | crcNotStarted
  deriving DecidableEq, Repr

structure State where
  /-- `EVQ.items`, head first (R23). -/
  evqItems : List QueuedEvent
  /-- `PRES.map`, keyed by the number of the device identifier (R24). -/
  presMap : KeyMap PresenceEntry
  /-- `C` (R19). -/
  capacity : Nat
  /-- The other parameters of R4, constant (R26 item 4; log 3). -/
  cfg : Cfg
  /-- `RXBUF` (R16); the block never writes it (R21). DESIGN CHOICE (log 4): it keeps its value after a transaction. -/
  rxbuf : RxBuf
  /-- A datagram has been delivered that RX has not processed (R10: one RX.FRAME per datagram; log 11). -/
  rxPending : Bool
  /-- Where RX stands inside its RX.FRAME (R10, R17, R113; log 11). -/
  rxStage : RxStage
  /-- `CRC.reg`, one per agent, keyed by the agent's number (R29, R131). -/
  crc : KeyMap CrcReg
  /-- `DEC.status`, `DEC.info`, `DEC.pkt` (R16); no value before the first DEC.DECODE (R27). -/
  dec : Option DecodeOutcome
  /-- `ACK.status`, `ACK.buf` (R16); no value before the first ACK.BUILD (R27). -/
  ack : Option AckOutcome
  /-- The CRC register inside ACKGEN (R29). -/
  ackCrc : CrcReg
  /-- `PUSH.discards` (R16); no value before the first EVQ.PUSH (R27). -/
  pushDiscards : Option Nat
  /-- What the last RX.FRAME returned (R113). -/
  frameResult : Option FrameResult
  /-- The frame the last RX.FRAME handed to the sender, if any (R115, R116). -/
  sender : Option (List Byte)
  /-- `POP.status`, `POP.event` (R16); no value before the first EVQ.TRYPOP (R27). -/
  pop : Option PopOutcome
  /-- The sink's answer the last WK.STEP returned, if it popped an event (R117). -/
  sinkAnswer : Option SinkAnswer
  /-- The signal `sink_failure(e)` of the last WK.STEP, if it was raised (R117, R135). -/
  sinkFailure : Option QueuedEvent
  /-- Where WK stands inside its WK.STEP (R10, R17, R117; log 11). -/
  wkStage : WkStage
  /-- `QRY.status`, `QRY.entry`, one per reader, keyed by the reader's number (R16, R133); unlisted: no value (R27). -/
  qry : KeyMap QueryOutcome
  /-- The circumstances of the current transaction (the model's own field, log 2). -/
  issue : Issue
  /-- What the environment presents, oldest first (the model's own field, log 1). -/
  inbox : List Input
  deriving DecidableEq, Repr

/-- The state after reset (R27, R140). RXBUF, the CRC registers and the configuration are DESIGN CHOICE (log 3, log 4,
log 5); RX waits for its first datagram and WK is about to poll (R140); `issue` and `inbox` are the model's own. -/
def State.reset : State where
  evqItems := []
  presMap := []
  capacity := Config.defaultCapacity
  cfg := Config.refCfg
  rxbuf := ⟨false, [], ⟨[]⟩⟩
  rxPending := false
  rxStage := .waiting
  crc := []
  dec := none
  ack := none
  ackCrc := ⟨0#16, false⟩
  pushDiscards := none
  frameResult := none
  sender := none
  pop := none
  sinkAnswer := none
  sinkFailure := none
  wkStage := .polling
  qry := []
  issue := ⟨.host, [], true⟩
  inbox := []

end Sys2Proof.Machine
end

