-- ==== Sys2Proof/Machine/Ops.lean ====
section
/-! DEFINITION. The shared operations: the contract checks a meaning runs before its effect (spec/60_exceptions.md
R131, R137), maps in canonical form, reading and writing the registers, raising an error outcome (R127), and the
atomic effects on the two stores (spec/43_fifo.md R99, R100, spec/44_presence.md R108, R110). -/

namespace Sys2Proof.Machine

/-- What a meaning answers. -/
abbrev Result := Host.Outcome State Fault Refusal

/-! ## The contract -/

/-- A check: `none` when it holds, else the refusal it stands for. -/
def need (holds : Bool) (r : Refusal) : Option Refusal := if holds then none else some r

/-- The first check that fails, if any. -/
def firstRefusal : List (Option Refusal) → Option Refusal
  | [] => none
  | none :: cs => firstRefusal cs
  | some r :: _ => some r

/-- Whether the issuer is a presence reader (R131). -/
def Agent.isReader : Agent → Bool
  | .qr _ => true
  | _ => false

/-- Whether none of `ops` is in progress beside the current transaction. -/
def noneInProgress (s : State) (ops : List Op) : Bool := ops.all fun o => !s.issue.inProgress.contains o

/-- The role of the `RX` port (R131). -/
def rxRole (s : State) : Option Refusal := need (s.issue.agent = .rx) .wrongAgent
/-- The role of the `WK` port (R131). -/
def wkRole (s : State) : Option Refusal := need (s.issue.agent = .wk) .wrongAgent

/-- One push at a time (R46, R103); RX.FRAME may push. -/
def singlePush (s : State) : Option Refusal := need (noneInProgress s [.evqPush, .rxFrame]) .concurrentPush
/-- One pop at a time (R46, R103); WK.STEP pops. -/
def singlePop (s : State) : Option Refusal := need (noneInProgress s [.evqTryPop, .wkStep]) .concurrentPop
/-- One writer of PRES at a time (R112, R144); RX.FRAME may record. -/
def singleRecord (s : State) : Option Refusal := need (noneInProgress s [.presRecHb, .rxFrame]) .concurrentRecord

/-- RXBUF keeps still while it is read (R47, R145). -/
def rxStill (s : State) : Option Refusal := need s.issue.rxStable .rxbufChanged
/-- `RXBUF.len <= MAXLEN` when a payload is present (R4, R137 item 5). -/
def rxFits (s : State) : Option Refusal := need (!s.rxbuf.present || s.rxbuf.len ≤ s.cfg.maxLen) .payloadTooLong

/-- What every operation stands under: a configuration R4 admits (R137 items 6 and 8, U3 to U5; R142: it is fixed before
the rules hold), and no RESET in progress beside it (R141, R137 item 4). -/
def standing (s : State) : List (Option Refusal) :=
  [need (cfgValid s.cfg) .badConfiguration, need (s.cfg.fieldLayout = .plainHex) .swappedLayout,
    need (s.cfg.crcCheck = .passive) .enforcingCrc, need (noneInProgress s [.reset]) .resetOverlap]

/-- An operation under its contract, with further checks of its own: refused by the first check that fails (R137: no
step and no value), else its effect takes place as one atomic step (R42). -/
def commit (s : State) (checks : List (Option Refusal)) (t : State) : Result :=
  match firstRefusal (standing s ++ checks) with
  | some r => .refused r
  | none => .next t

/-! ## Maps in canonical form -/

/-- The value at a key, `none` when it is not listed. -/
def lookupKey {α : Type} : KeyMap α → Nat → Option α
  | [], _ => none
  | (k, v) :: m, q => if k = q then some v else lookupKey m q

/-- The map with one key set, the keys kept rising. -/
def insertKey {α : Type} : KeyMap α → Nat → α → KeyMap α
  | [], q, v => [(q, v)]
  | (k, w) :: m, q, v =>
    if q < k then (q, v) :: (k, w) :: m
    else if q = k then (q, v) :: m
    else (k, w) :: insertKey m q v

/-- The canonical form: the keys strictly rise. -/
def keysRise {α : Type} : KeyMap α → Bool
  | [] => true
  | [_] => true
  | a :: b :: m => a.1 < b.1 && keysRise (b :: m)

/-- The canonical form of PRES storage: rising keys, each a 32-bit identifier (R21, R24). -/
def Memory.wf (m : KeyMap PresenceEntry) : Bool := keysRise m && m.all fun e => e.1 < 2 ^ 32

/-! ## The CRC registers -/

/-- The agents numbered, for the map of their CRC registers. -/
def Agent.number : Agent → Nat
  | .rx => 0
  | .wk => 1
  | .host => 2
  | .qr k => k + 3

/-- `CRC.reg` of an agent (R29); DESIGN CHOICE (log 5): 0 and not defined until its CRC.INIT. -/
def State.crcOf (s : State) (a : Agent) : CrcReg := (lookupKey s.crc a.number).getD ⟨0#16, false⟩

/-- `CRC.reg` of the issuing agent written (R29). -/
def State.setCrc (s : State) (v : Half) : State := { s with crc := insertKey s.crc s.issue.agent.number ⟨v, true⟩ }

/-- The byte sequence of a CRC.COMPUTE (R16, R72). -/
def sourceBytes (s : State) : ByteSource → List Byte
  | .given bytes => bytes
  | .rxbuf => s.rxbuf.data

/-- RXBUF is private to RX, is read only when a payload is present, and keeps still (R36, R47, R133). -/
def sourceChecks (s : State) : ByteSource → List (Option Refusal)
  | .given _ => []
  | .rxbuf => [rxRole s, rxStill s, need s.rxbuf.present .noPayload, rxFits s]

/-! ## Outcomes -/

/-- Raising an error outcome (R127): the status output takes the error's code and payload, every other output of the
operation is without value, nothing is saved, control returns to the caller. There is no return from it (R129). -/
def State.raise (s : State) : BlockError → State
  | .decode e => { s with dec := some (.error e) }
  | .payloadTooShort => { s with ack := some .payloadTooShort }

/-- The end of a DEC.DECODE (R76). -/
def State.endDecode (s : State) : DecodeOutcome → State
  | .ok p => { s with dec := some (.ok p) }
  | .error e => s.raise (.decode e)

/-- The end of an ACK.BUILD, from the header it made, if any (R92): ACKGEN's own CRC register keeps the checksum (R29). -/
def State.endAck (s : State) : Option (List Byte) → State
  | some h => { s with ack := some (.ok (ackSeal h)), ackCrc := ⟨ackSum h, true⟩ }
  | none => s.raise .payloadTooShort

/-! ## The event FIFO -/

/-- The loop of EVQ.PUSH (R99): while more than `c` events are listed the head is removed, and counted. -/
def trimHead (c : Nat) : List QueuedEvent → List QueuedEvent × Nat
  | [] => ([], 0)
  | e :: es =>
    if es.length + 1 > c then ((trimHead c es).1, (trimHead c es).2 + 1)
    else (e :: es, 0)

/-- EVQ.PUSH (R99). -/
def State.push (s : State) (e : QueuedEvent) : State :=
  { s with
    evqItems := (trimHead s.capacity (s.evqItems ++ [e])).1
    pushDiscards := some (trimHead s.capacity (s.evqItems ++ [e])).2 }

/-- EVQ.TRYPOP (R100). -/
def State.popHead (s : State) : State :=
  match s.evqItems with
  | [] => { s with pop := some .empty }
  | e :: es => { s with evqItems := es, pop := some (.event e) }

/-! ## The presence register -/

/-- PRES.RECHB (R108): `PRES.map[id] <- {lastSeenAt = now, online = true}`. -/
def State.recordHb (s : State) (id : DevId) (now : TS) : State :=
  { s with presMap := insertKey s.presMap id.toNat ⟨now, true⟩ }

/-- What PRES.QUERY answers (R110). -/
def State.answerQuery (s : State) (id : DevId) : QueryOutcome :=
  match lookupKey s.presMap id.toNat with
  | none => .absent
  | some e => .present id e

/-- The query outputs of reader `k` written (R110, R133). -/
def State.setQry (s : State) (k : Nat) (q : QueryOutcome) : State := { s with qry := insertKey s.qry k q }

/-! ## The sequencers between two steps -/

/-- The operation RX is inside of, if any (R113). -/
def State.rxRunning (s : State) : List Op :=
  match s.rxStage with
  | .waiting => []
  | .decoded _ => [.rxFrame]
  | .routed _ _ => [.rxFrame]

/-- The operation WK is inside of, if any (R117). -/
def State.wkRunning (s : State) : List Op :=
  match s.wkStage with
  | .polling => []
  | .submitting _ => [.wkStep]

/-- Whether an agent is inside its sequence (R43). -/
def State.busy (s : State) : Agent → Bool
  | .rx => !s.rxRunning.isEmpty
  | .wk => !s.wkRunning.isEmpty
  | .qr _ => false
  | .host => false

/-! ## Taking the next input -/

/-- The agent whose port an instruction belongs to (R131); RX for a CRC operation, which any agent may issue. -/
def homeAgent : Instr → Agent
  | .crcInit => .rx
  | .crcByte _ => .rx
  | .crcCompute _ _ _ => .rx
  | .decDecode => .rx
  | .ackBuild => .rx
  | .evqPush _ => .rx
  | .evqTryPop => .wk
  | .presRecHb _ _ => .rx
  | .presQuery _ => .qr 0
  | .rxFrame => .rx
  | .wkStep _ => .wk
  | .reset _ => .host
  | .rxClassAbsent => .rx
  | .rxClassHeartbeat _ => .rx
  | .rxClassEvent _ => .rx
  | .rxClassBadLen _ => .rx
  | .hb18 _ => .rx
  | .ev30 _ => .rx
  | .ackFlags18 _ _ _ => .rx
  | .ackFlags08 _ _ _ _ => .rx

/-- The external receive loop writes RXBUF (R16): a datagram waits for RX. -/
def State.takeDelivery (s : State) (rx : RxBuf) (rest : List Input) : State :=
  { s with rxbuf := rx, rxPending := true, inbox := rest }

/-- A delivery: outside the contract while RX is inside an RX.FRAME (R47, R145). -/
def State.deliver (s : State) (rx : RxBuf) (rest : List Input) : Result :=
  if s.rxRunning.isEmpty then .next (s.takeDelivery rx rest) else .refused .rxbufChanged

/-- A transaction becomes the current one; a sequence RX or WK is inside of is in progress beside it. -/
def State.takeRequest (s : State) (i : Issue) (rest : List Input) : State :=
  { s with issue := { i with inProgress := i.inProgress ++ s.rxRunning ++ s.wkRunning }, inbox := rest }

end Sys2Proof.Machine
end

