-- ==== Sys2Proof/Machine/AckGen.lean ====
section
/-! DEFINITION. Unit ACKGEN (spec/42_ack.md): ACK.BUILD on RXBUF, and the two ACK18 rows of spec/opcode_table.json:
the frame for a command byte that is zero or not, from the other bytes the unit reads (R62, R94, R97; log 6). -/

namespace Sys2Proof.Machine

/-- ACK.BUILD (R92). -/
def execAckBuild (s : State) : Result := commit s [rxRole s, rxStill s, rxFits s] (s.endAck (headerOf s.rxbuf))

/-- ACK18.FLAGS_18 (R62, R94): `in[11] = 0x00`. -/
def execAckFlags18 (device : DevId) (frameId : Half) (channel : Byte) (s : State) : Result :=
  commit s [rxRole s] (s.endAck (some (ackHeader 0x00#8 (copiedBytes device frameId channel))))

/-- ACK18.FLAGS_08 (R62, R94): `in[11]` is not `0x00`. -/
def execAckFlags08 (command : Byte) (device : DevId) (frameId : Half) (channel : Byte) (s : State) : Result :=
  commit s [need (Instr.ackFlags08 command device frameId channel).wf .illFormedOperand, rxRole s]
    (s.endAck (some (ackHeader command (copiedBytes device frameId channel))))

end Sys2Proof.Machine
end

