-- ==== Sys2Proof/Machine/CrcUnit.lean ====
section
/-! DEFINITION. The operations of unit CRC16 (spec/40_crc16.md): any agent may issue them, on a register of its own
(R29, R131). -/

namespace Sys2Proof.Machine

/-- CRC.INIT (R69). -/
def execCrcInit (s : State) : Result := commit s [] (s.setCrc Config.crcInitValue)

/-- CRC.BYTE (R71); before any CRC.INIT it is refused (U13: "is outside the contract of 70_reset_and_hazards.md rule
R146 and is `refuse`d"). -/
def execCrcByte (b : Byte) (s : State) : Result :=
  commit s [need (s.crcOf s.issue.agent).defined .crcNotStarted]
    (s.setCrc (crcFold (s.crcOf s.issue.agent).value b))

/-- CRC.COMPUTE (R72); a range outside the bytes is refused (R37). -/
def execCrcCompute (src : ByteSource) (offset length : Nat) (s : State) : Result :=
  commit s (sourceChecks s src ++ [need (offset + length ≤ (sourceBytes s src).length) .crcRange])
    (s.setCrc (crcRange (sourceBytes s src) offset length))

end Sys2Proof.Machine
end

