-- ==== Sys2Proof/Machine/Fifo.lean ====
section
/-! DEFINITION. Unit EVQ (spec/43_fifo.md). -/

namespace Sys2Proof.Machine

/-- EVQ.PUSH (R99): the operand is a QueuedEvent (R59), the producer is RX and alone (R46). -/
def execEvqPush (e : QueuedEvent) (s : State) : Result :=
  commit s [need (Instr.evqPush e).wf .illFormedOperand, rxRole s, singlePush s] (s.push e)

/-- EVQ.TRYPOP (R100): the consumer is WK and alone (R46). -/
def execEvqTryPop (s : State) : Result := commit s [wkRole s, singlePop s] s.popHead

end Sys2Proof.Machine
end

