-- ==== Sys2Proof/Machine/Parser.lean ====
section
/-! DEFINITION. Unit PARSER (spec/41_decode.md): DEC.DECODE on RXBUF, and the rows of spec/opcode_table.json that are
its classes (R61, R77, R78) and its inbound formats (R50, R51): the parser on a payload of that class or format
(log 6). None writes anything but the DEC outputs (R87). -/

namespace Sys2Proof.Machine

/-- DEC.DECODE (R76). -/
def execDecDecode (s : State) : Result :=
  commit s [rxRole s, rxStill s, rxFits s] (s.endDecode (decodeRx s.cfg s.rxbuf))

/-- RXCLASS.ABSENT (R61, R77): step 1 raises EmptyPayload. -/
def execRxClassAbsent (s : State) : Result := commit s [rxRole s] (s.raise (.decode .emptyPayload))

/-- RXCLASS.HEARTBEAT (R61, R78): continues with R79 to R81. -/
def execRxClassHeartbeat (p : List Byte) (s : State) : Result :=
  commit s [need (Instr.rxClassHeartbeat p).wf .illFormedOperand, rxRole s] (s.endDecode (parseHeartbeat s.cfg p))

/-- RXCLASS.EVENT (R61, R78): continues with R79, R80, R82 to R85. -/
def execRxClassEvent (p : List Byte) (s : State) : Result :=
  commit s [need (Instr.rxClassEvent p).wf .illFormedOperand, rxRole s] (s.endDecode (parseEvent s.cfg p))

/-- RXCLASS.BADLEN (R61, R78): step 2 raises InvalidLength. -/
def execRxClassBadLen (n : Half) (s : State) : Result :=
  commit s [need (Instr.rxClassBadLen n).wf .illFormedOperand, rxRole s, need (n.toNat ≤ s.cfg.maxLen) .payloadTooLong]
    (s.raise (.decode (.invalidLength n.toNat)))

/-- HB18 (R50, R81): the fields of an inbound heartbeat frame. -/
def execHb18 (frame : List Byte) (s : State) : Result :=
  commit s [need (Instr.hb18 frame).wf .illFormedOperand, rxRole s] (s.endDecode (parseHeartbeat s.cfg frame))

/-- EV30 (R51, R82 to R85): the fields of an inbound event frame. -/
def execEv30 (frame : List Byte) (s : State) : Result :=
  commit s [need (Instr.ev30 frame).wf .illFormedOperand, rxRole s] (s.endDecode (parseEvent s.cfg frame))

end Sys2Proof.Machine
end

