-- ==== Sys2Proof/Machine/Presence.lean ====
section
/-! DEFINITION. Unit PRES (spec/44_presence.md). -/

namespace Sys2Proof.Machine

/-- PRES.RECHB (R108): the writer is RX and alone (R112, R144). -/
def execPresRecHb (id : DevId) (now : TS) (s : State) : Result :=
  commit s [rxRole s, singleRecord s] (s.recordHb id now)

/-- The number of the reader that issues the transaction; 0 for an agent that is none. -/
def Agent.reader : Agent → Nat
  | .qr k => k
  | _ => 0

/-- PRES.QUERY (R110): a reader's own outputs take the answer (R133). -/
def execPresQuery (id : DevId) (s : State) : Result :=
  commit s [need s.issue.agent.isReader .wrongAgent] (s.setQry s.issue.agent.reader (s.answerQuery id))

end Sys2Proof.Machine
end

