-- ==== Sys2Proof/Machine/Reset.lean ====
section
/-! DEFINITION. RESET (spec/70_reset_and_hazards.md R139 to R141). -/

namespace Sys2Proof.Machine

/-- The operand of RESET (R139): 500 when none is given. -/
def resetCapacity (c : Option Nat) : Nat := c.getD Config.defaultCapacity

/-- The effect of RESET (R139, R140): both stores empty, the capacity as given, every register as after reset; the
configuration is fixed (R142) and what the environment presents is not the block's. -/
def State.restart (s : State) (c : Nat) : State :=
  { State.reset with capacity := c, cfg := s.cfg, issue := s.issue, inbox := s.inbox }

/-- RESET (R139): by HOST, while nothing else is in progress (R141), with a capacity of at least 1 (R137 item 6). -/
def execReset (c : Option Nat) (s : State) : Result :=
  commit s
    [need (s.issue.agent = .host) .wrongAgent, need s.issue.inProgress.isEmpty .resetOverlap,
      need (1 ≤ resetCapacity c) .zeroCapacity]
    (s.restart (resetCapacity c))

end Sys2Proof.Machine
end

