-- ==== Sys2Proof/Machine/Sequencers.lean ====
section
/-! DEFINITION. The two sequencers (spec/45_sequencers.md) as whole operations, one transaction each: only one of the
sub-operations of each touches shared state and it is atomic (R113, R119; DEDUCED, log 11). The same two sequences taken
step by step, with other agents between, are in Machine/Turns.lean. -/

namespace Sys2Proof.Machine

/-- Step 2 of RX.FRAME (R113, R114): an event is pushed, a heartbeat recorded, an error changes nothing. -/
def State.route (s : State) : DecodeOutcome → State
  | .ok (.event e) => s.push e
  | .ok (.heartbeat c) => s.recordHb c.deviceId s.rxbuf.now
  | .error _ => s

/-- The `discards` of an RX.FRAME (R113): those of its push, 0 without one. -/
def routeDiscards (s : State) : DecodeOutcome → Nat
  | .ok (.event e) => (trimHead s.capacity (s.evqItems ++ [e])).2
  | .ok (.heartbeat _) => 0
  | .error _ => 0

/-- The end of an RX.FRAME (R113): the outcomes are returned, the frame, if there is one, goes to the sender (R115,
R116), and the datagram has been processed (R10). -/
def State.endFrame (s : State) (d : DecodeOutcome) (discards : Nat) : State :=
  { s with
    frameResult := some ⟨d, ackOutcome s.rxbuf, discards⟩
    sender := ackBuf (ackOutcome s.rxbuf)
    rxPending := false }

/-- RX.FRAME's effect (R113): decode, route, acknowledge. -/
def State.frame (s : State) : State :=
  let d := decodeRx s.cfg s.rxbuf
  (((s.endDecode d).route d).endAck (headerOf s.rxbuf)).endFrame d (routeDiscards s d)

/-- RX.FRAME (R113). DESIGN CHOICE (log 4): on the datagram RXBUF holds, delivered since the last RX.FRAME or not. -/
def execRxFrame (s : State) : Result :=
  commit s [rxRole s, rxStill s, rxFits s, singlePush s, singleRecord s] s.frame

/-- The sink has answered (R117, R118): the answer is returned, a failure is signalled, the event is gone. -/
def State.endSubmit (s : State) (e : QueuedEvent) (a : SinkAnswer) : State :=
  { s with
    sinkAnswer := some a
    sinkFailure := match a with
      | .success => none
      | .failure => some e }

/-- WK.STEP's effect (R117): a popped event is submitted; from an empty FIFO nothing is. -/
def State.submit (s : State) (a : SinkAnswer) : State :=
  match s.evqItems with
  | [] => { s.popHead with sinkAnswer := none, sinkFailure := none }
  | e :: _ => s.popHead.endSubmit e a

/-- WK.STEP (R117). -/
def execWkStep (a : SinkAnswer) (s : State) : Result := commit s [wkRole s, singlePop s] (s.submit a)

end Sys2Proof.Machine
end

