-- ==== Sys2Proof/Machine/Dispatch.lean ====
section
/-! DEFINITION. One arm per row of spec/opcode_table.json. -/

namespace Sys2Proof.Machine

def exec (i : Instr) (s : State) : Host.Outcome State Fault Refusal :=
  match i with
  | .crcInit => Sys2Proof.Machine.execCrcInit s
  | .crcByte b => Sys2Proof.Machine.execCrcByte b s
  | .crcCompute src offset length => Sys2Proof.Machine.execCrcCompute src offset length s
  | .decDecode => Sys2Proof.Machine.execDecDecode s
  | .ackBuild => Sys2Proof.Machine.execAckBuild s
  | .evqPush e => Sys2Proof.Machine.execEvqPush e s
  | .evqTryPop => Sys2Proof.Machine.execEvqTryPop s
  | .presRecHb id now => Sys2Proof.Machine.execPresRecHb id now s
  | .presQuery id => Sys2Proof.Machine.execPresQuery id s
  | .rxFrame => Sys2Proof.Machine.execRxFrame s
  | .wkStep sink => Sys2Proof.Machine.execWkStep sink s
  | .reset c => Sys2Proof.Machine.execReset c s
  | .rxClassAbsent => Sys2Proof.Machine.execRxClassAbsent s
  | .rxClassHeartbeat p => Sys2Proof.Machine.execRxClassHeartbeat p s
  | .rxClassEvent p => Sys2Proof.Machine.execRxClassEvent p s
  | .rxClassBadLen n => Sys2Proof.Machine.execRxClassBadLen n s
  | .hb18 frame => Sys2Proof.Machine.execHb18 frame s
  | .ev30 frame => Sys2Proof.Machine.execEv30 frame s
  | .ackFlags18 device frameId channel => Sys2Proof.Machine.execAckFlags18 device frameId channel s
  | .ackFlags08 command device frameId channel => Sys2Proof.Machine.execAckFlags08 command device frameId channel s

end Sys2Proof.Machine
end

