-- ==== Sys2Proof/Machine/Turns.lean ====
section
/-! DEFINITION. The sequencers step by step (spec/00_scope.md R10: "every operation of 30_encoding.md rule R63 is one
atomic step of the agent that executes it, except `RX.FRAME` and `WK.STEP`, which are short sequences of such steps"). RX
executes RX.FRAME once per datagram, WK executes WK.STEP for ever; any other input may stand between two turns. -/

namespace Sys2Proof.Machine

/-- An outcome continued by an update. -/
def andThen (r : Result) (f : State → State) : Result :=
  match r with
  | .next t => .next (f t)
  | .fault x => .fault x
  | .refused x => .refused x

/-- RX issues the next operation of its sequence; a WK.STEP may be in progress beside it. -/
def State.asRx (s : State) : State := { s with issue := ⟨.rx, s.wkRunning, true⟩ }

/-- WK issues the next operation of its sequence; an RX.FRAME may be in progress beside it. -/
def State.asWk (s : State) : State := { s with issue := ⟨.wk, s.rxRunning, true⟩ }

/-- Step 2 of RX.FRAME as the operation it is (R113, R114). -/
def execRoute (d : DecodeOutcome) (s : State) : Result :=
  match d with
  | .ok (.event e) => execEvqPush e s
  | .ok (.heartbeat c) => execPresRecHb c.deviceId s.rxbuf.now s
  | .error _ => .next s

/-- RX has come to a stage of its sequence. -/
def State.setRxStage (s : State) (x : RxStage) : State := { s with rxStage := x }

/-- WK has come to a stage of its sequence. -/
def State.setWkStage (s : State) (x : WkStage) : State := { s with wkStage := x }

/-- One step of RX (R10, R113): waiting, it starts RX.FRAME when a datagram has been delivered, and else goes on waiting;
then it routes; then it acknowledges and waits again. -/
def State.rxTurn (s : State) : Result :=
  match s.rxStage with
  | .waiting =>
    if s.rxPending then
      andThen (execDecDecode s.asRx) fun t => t.setRxStage (.decoded (decodeRx s.cfg s.rxbuf))
    else .next s
  | .decoded d => andThen (execRoute d s.asRx) fun t => t.setRxStage (.routed d (routeDiscards s d))
  | .routed d n => andThen (execAckBuild s.asRx) fun t => (t.endFrame d n).setRxStage .waiting

/-- What WK does with the answer to its poll (R117): a popped event goes to the sink, else WK polls again later. -/
def State.endPoll (s : State) (items : List QueuedEvent) : State :=
  match items with
  | [] => { s with sinkAnswer := none, sinkFailure := none }
  | e :: _ => s.setWkStage (.submitting e)

/-- One step of WK (R10, R117): it polls; with an event popped it takes the sink's answer and polls again. No pop is
held while the sink works (R119). -/
def State.wkTurn (s : State) (a : SinkAnswer) : Result :=
  match s.wkStage with
  | .polling => andThen (execEvqTryPop s.asWk) fun t => t.endPoll s.evqItems
  | .submitting e => .next ((s.asWk.endSubmit e a).setWkStage .polling)

end Sys2Proof.Machine
end

