-- ==== Sys2Proof/Machine/Step.lean ====
section
/-! DEFINITION. One step of the block (spec/00_scope.md R10: any agent may be scheduled at any step; log 1): with
nothing presented nothing happens; a delivery writes RXBUF (R16); a sequencer takes its turn; a transaction is decoded
and executed. -/

namespace Sys2Proof.Machine

def step (s : State) : Host.Outcome State Fault Refusal :=
  match s.inbox with
  | [] => .next s
  | .deliver rx :: rest => s.deliver rx rest
  | .rxTurn :: rest => State.rxTurn { s with inbox := rest }
  | .wkTurn a :: rest => State.wkTurn { s with inbox := rest } a
  | .request issue wire :: rest =>
    if s.busy issue.agent then .refused .agentBusy
    else
      match decode wire with
      | .ok i => exec i (s.takeRequest issue rest)
      | .error _ => .refused .undecodable

/-- `s` with a table row's word as the next transaction, issued by the agent of its port, nothing beside it: no sequence
is begun (log 7). -/
def State.withFetchWord (s : State) (nbits w : Nat) : State :=
  let x := wireOfTable nbits w
  let agent := match decode x with
    | .ok i => homeAgent i
    | .error _ => .rx
  { s with rxStage := .waiting, wkStage := .polling, inbox := .request ⟨agent, [], true⟩ x :: s.inbox }

end Sys2Proof.Machine
end

