-- ==== Sys2Proof/Machine/Render.lean ====
section
/-! DEFINITION. The renderings of spec/00_scope.md R9 and spec/41_decode.md R88: the character strings of the source's
data model, computed from the numbers the block carries. DESIGN CHOICE of the spec (D11): upper-case digits. -/

namespace Sys2Proof.Machine

/-- One hexadecimal digit of a value below 16. -/
def hexDigit (n : Nat) : Char := (['0', '1', '2', '3', '4', '5', '6', '7', '8', '9', 'A', 'B', 'C', 'D', 'E', 'F']).getD n '0'

/-- `hex_N(v)`: exactly `n` characters, most significant digit first (R9). -/
def hexChars : Nat → Nat → List Char
  | 0, _ => []
  | n + 1, v => hexChars n (v / 16) ++ [hexDigit (v % 16)]

/-- The base-10 digits of `v`, most significant first, `fuel` digits at most; none for 0. -/
def decDigits : Nat → Nat → List Char
  | 0, _ => []
  | fuel + 1, v => if v = 0 then [] else decDigits fuel (v / 10) ++ [hexDigit (v % 10)]

/-- The base-10 numeral of `v` padded on the left with `'0'` to at least three characters (R9). -/
def dec3 (v : Nat) : List Char :=
  List.replicate (3 - (decDigits (v + 1) v).length) '0' ++ decDigits (v + 1) v

/-- `deviceId = hex_8(device_id)` (R88). -/
def deviceIdString (v : DevId) : List Char := hexChars 8 v.toNat
/-- `account = hex_4(account)` (R88). -/
def accountString (v : Half) : List Char := hexChars 4 v.toNat
/-- `eventCode = hex_4(event_code)` (R88). -/
def eventCodeString (v : Half) : List Char := hexChars 4 v.toNat
/-- `partition = hex_2(partition)` (R88). -/
def partitionString (v : Byte) : List Char := hexChars 2 v.toNat
/-- `zoneOrUser = dec3(zone)` (R88). -/
def zoneString (z : Nat) : List Char := dec3 z

end Sys2Proof.Machine
end

