-- ==== Sys2Proof/Safety.lean ====
section
/-! DEFINITION. The terms statements are made in: what the contract asks of a state before an operation
(spec/60_exceptions.md R131, R137), the invariants of spec/10_state.md R30 with what the data model says of the result
outputs (R12, R89, R96), and runs of the block under any schedule (spec/20_memory.md R42). -/

namespace Sys2Proof.Machine

/-! ## What the contract asks -/

/-- What every operation stands under (R137 items 4, 6 and 8): a configuration R4 admits, no RESET in progress. -/
def Standing (s : State) : Prop :=
  cfgValid s.cfg = true ∧ s.cfg.fieldLayout = .plainHex ∧ s.cfg.crcCheck = .passive ∧ Op.reset ∉ s.issue.inProgress

/-- RX may issue an operation of its port (R131). -/
def RxReady (s : State) : Prop := s.issue.agent = .rx ∧ Standing s

/-- RXBUF may be read: it keeps still, and its length is at most MAXLEN (R137 items 3 and 5). -/
def RxbufReady (s : State) : Prop :=
  s.issue.rxStable = true ∧ (s.rxbuf.present = true → s.rxbuf.len ≤ s.cfg.maxLen)

/-- None of `ops` overlaps the current transaction (R137 item 2; which operations count is log 12). -/
def Alone (s : State) (ops : List Op) : Prop := ∀ o ∈ ops, o ∉ s.issue.inProgress

/-- RX may push (R131, R103). -/
def PushReady (s : State) : Prop := RxReady s ∧ Alone s [.evqPush, .rxFrame]

/-- WK may pop (R131, R103). -/
def PopReady (s : State) : Prop := s.issue.agent = .wk ∧ Standing s ∧ Alone s [.evqTryPop, .wkStep]

/-- RX may record (R131, R112). -/
def RecordReady (s : State) : Prop := RxReady s ∧ Alone s [.presRecHb, .rxFrame]

/-- RX may run RX.FRAME. -/
def FrameReady (s : State) : Prop :=
  RxReady s ∧ RxbufReady s ∧ Alone s [.evqPush, .presRecHb, .rxFrame]

/-- HOST may reset (R131, R141), with an admissible operand (R137 item 6). -/
def ResetReady (c : Option Nat) (s : State) : Prop :=
  s.issue.agent = .host ∧ Standing s ∧ s.issue.inProgress = [] ∧ ∀ n, c = some n → 1 ≤ n

/-! ## Invariants -/

/-- What holds of every packet the parser accepts (R89). -/
def PacketValid (p : DecodedPacket) : Prop :=
  match p with
  | .heartbeat c => c.raw.length = 18
  | .event e => eventValid e = true

/-- What the RX sequencer holds inside its RX.FRAME: the outcome of the datagram in RXBUF (R47, R113). -/
def RxStageValid (s : State) : Prop :=
  match s.rxStage with
  | .waiting => True
  | .decoded d => d = decodeRx s.cfg s.rxbuf
  | .routed d _ => d = decodeRx s.cfg s.rxbuf

/-- The invariants of R30 (I1 to I3), the canonical form of the maps, what the valid outputs hold, and what the
sequencers hold between two steps. -/
structure State.Inv (s : State) : Prop where
  capacity_pos : 1 ≤ s.capacity
  bounded : s.evqItems.length ≤ s.capacity
  events_valid : ∀ e ∈ s.evqItems, eventValid e = true
  pres_wf : Memory.wf s.presMap = true
  pres_online : ∀ e ∈ s.presMap, e.2.online = true
  crc_wf : keysRise s.crc = true
  qry_wf : keysRise s.qry = true
  cfg_valid : cfgValid s.cfg = true
  dec_valid : ∀ p, s.dec = some (.ok p) → PacketValid p
  ack_sealed : ∀ f, s.ack = some (.ok f) → f.length = 18 ∧ crcRange f 0 18 = 0#16
  pop_valid : ∀ e, s.pop = some (.event e) → eventValid e = true
  rx_stage : RxStageValid s
  wk_stage : ∀ e, s.wkStage = .submitting e → eventValid e = true

/-! ## Runs -/

/-- Instructions executed one after another under one issue; `none` when one of them stops. -/
def runOps : List Instr → State → Option State
  | [], s => some s
  | i :: is, s =>
    match exec i s with
    | .next t => runOps is t
    | .fault _ => none
    | .refused _ => none

/-- The events an instruction pushes (R99, R113). -/
def pushedBy (i : Instr) (s : State) : List QueuedEvent :=
  match i with
  | .evqPush e => [e]
  | .rxFrame =>
    match decodeRx s.cfg s.rxbuf with
    | .ok (.event e) => [e]
    | _ => []
  | _ => []

/-- The events an instruction popped, read from its outputs (R100, R117). -/
def poppedBy (i : Instr) (t : State) : List QueuedEvent :=
  match i with
  | .evqTryPop => (t.pop.bind popEvent).toList
  | .wkStep _ => (t.pop.bind popEvent).toList
  | _ => []

/-- The overflow discards an instruction reported, read from its outputs (R99, R113). -/
def discardsBy (i : Instr) (t : State) : Nat :=
  match i with
  | .evqPush _ => t.pushDiscards.getD 0
  | .rxFrame => (t.frameResult.map (·.discards)).getD 0
  | _ => 0

/-- Whether an instruction is RESET. -/
def isReset : Instr → Bool
  | .reset _ => true
  | _ => false

/-- The events an input pushes (R10, R113): those of its transaction, or of RX's routing step. -/
def pushedByInput (x : Input) (s : State) : List QueuedEvent :=
  match x with
  | .deliver _ => []
  | .rxTurn =>
    match s.rxStage with
    | .decoded (.ok (.event e)) => [e]
    | _ => []
  | .wkTurn _ => []
  | .request _ w =>
    match decode w with
    | .ok i => pushedBy i s
    | .error _ => []

/-- The events an input popped, from the outputs after it (R10, R117): those of its transaction, or of WK's poll. -/
def poppedByInput (x : Input) (s t : State) : List QueuedEvent :=
  match x with
  | .deliver _ => []
  | .rxTurn => []
  | .wkTurn _ =>
    match s.wkStage with
    | .polling => (t.pop.bind popEvent).toList
    | .submitting _ => []
  | .request _ w =>
    match decode w with
    | .ok i => poppedBy i t
    | .error _ => []

/-- The overflow discards an input reported, from the outputs after it (R99, R113). -/
def discardsByInput (x : Input) (s t : State) : Nat :=
  match x with
  | .deliver _ => 0
  | .rxTurn =>
    match s.rxStage with
    | .decoded (.ok (.event _)) => t.pushDiscards.getD 0
    | _ => 0
  | .wkTurn _ => 0
  | .request _ w =>
    match decode w with
    | .ok i => discardsBy i t
    | .error _ => 0

/-- Whether an input is a transaction of RESET. -/
def isResetInput : Input → Bool
  | .deliver _ => false
  | .rxTurn => false
  | .wkTurn _ => false
  | .request _ w =>
    match decode w with
    | .ok i => isReset i
    | .error _ => false

/-- A run of the block without RESET under any schedule (R42): one step after another, each on an input of any kind, with
any datagram, any transaction by any agent under any circumstances, any turn of a sequencer. It carries the events
pushed, the events popped and the number of discards reported. -/
inductive Run : State → List QueuedEvent → List QueuedEvent → Nat → State → Prop
  | stop (s : State) : Run s [] [] 0 s
  | input {s t u : State} {pushed popped : List QueuedEvent} {n : Nat} (x : Input)
      (not_reset : isResetInput x = false)
      (runs : step { s with inbox := [x] } = .next t)
      (rest : Run t pushed popped n u) :
      Run s (pushedByInput x s ++ pushed) (poppedByInput x s t ++ popped) (discardsByInput x s t + n) u

end Sys2Proof.Machine
end

