-- ==== Sys2Proof/Certificates/Slice0/Obligations.lean ====
section
/-! DEFINITION. The statements about the block, each with the rule of spec/ it formalises. The first part writes the
rules' own formulas on natural numbers, apart from the model's definitions. -/

namespace Sys2Proof.Spec

open Sys2Proof.Machine

/-- `p[k]` as a number (R5). -/
def byteVal (p : List Byte) (k : Nat) : Nat := (p.getD k 0#8).toNat

/-- `256 * p[k] + p[k+1]` (R6). -/
def be16Val (p : List Byte) (k : Nat) : Nat := 256 * byteVal p k + byteVal p (k + 1)

/-- The four bytes from `k` as one number, the first most significant (R6). -/
def be32Val (p : List Byte) (k : Nat) : Nat := 65536 * be16Val p k + be16Val p (k + 2)

/-- `crc_round` on numbers (R70): `(2 * r) mod 65536`, and the polynomial where the high bit was set. -/
def crcRoundVal (r : Nat) : Nat := if 32768 ≤ r then (2 * r % 65536) ^^^ 0x1021 else 2 * r % 65536

/-- One byte folded in, on numbers (R71). -/
def crcByteVal (r b : Nat) : Nat := crcRoundVal^[8] (r ^^^ (256 * b))

/-- The checksum of `length` bytes from `offset`, on numbers (R72). -/
def crcVal (bytes : List Byte) (offset length : Nat) : Nat :=
  (List.range length).foldl (fun r i => crcByteVal r (byteVal bytes (offset + i))) 65535

/-- Both nibbles at most 9 (R55). -/
def IsBcd (b : Nat) : Prop := b / 16 ≤ 9 ∧ b % 16 ≤ 9

/-- `10 * high + low` (R55). -/
def bcdVal (b : Nat) : Nat := 10 * (b / 16) + b % 16

/-- The leading hexadecimal digit is 1, 3 or 6 (R85). -/
def LeadOk (code : Nat) : Prop := code / 4096 = 1 ∨ code / 4096 = 3 ∨ code / 4096 = 6

/-- Steps 3 and 4 and the copy (R79, R80, R90). -/
def CommonOf (c : Cfg) (p : List Byte) (f : CommonFields) : Prop :=
  f.deviceId.toNat = be32Val p 4 ∧ f.channel.toNat = byteVal p 10 ∧ f.technology.toNat = byteVal p c.offTech
    ∧ f.crc16.toNat = be16Val p (p.length - 2) ∧ f.raw = p

/-- Step 6 (R82, R84). -/
def EventOf (c : Cfg) (p : List Byte) (g : EventFields) : Prop :=
  g.account.toNat = be16Val p c.offAccount ∧ g.eventCode.toNat = be16Val p c.offEventCode
    ∧ g.partition.toNat = byteVal p c.offPartition
    ∧ g.zone = 100 * bcdVal (byteVal p c.offZone) + bcdVal (byteVal p (c.offZone + 1))

/-- The 18 bytes of format ACK18 (R52), `inb k` the inbound byte at offset `k`. -/
def AckOf (inb : Nat → Byte) (a : List Byte) : Prop :=
  a.length = 18 ∧ a[0]? = some 0x21#8 ∧ a[1]? = some 0x02#8 ∧ a[2]? = some 0x01#8
    ∧ a[3]? = some (if inb 11 = 0x00#8 then 0x18#8 else 0x08#8)
    ∧ (∀ k, 4 ≤ k → k ≤ 10 → a[k]? = some (inb k))
    ∧ a[11]? = some 0x01#8 ∧ a[12]? = some 0x99#8 ∧ a[13]? = some 0x05#8
    ∧ a[14]? = some 0x00#8 ∧ a[15]? = some 0x00#8
    ∧ be16Val a 16 = crcVal a 0 16

/-- The offsets an event frame's fields stand at under a configuration (R40, R51). -/
def eventOffsets (c : Cfg) : List Nat :=
  [4, 5, 6, 7, 10, c.offTech, c.offAccount, c.offAccount + 1, c.offEventCode, c.offEventCode + 1, c.offPartition,
    c.offZone, c.offZone + 1, 28, 29]

/-- The offsets a heartbeat frame's fields stand at under a configuration (R40, R50). -/
def heartbeatOffsets (c : Cfg) : List Nat := [4, 5, 6, 7, 10, c.offTech, 16, 17]

/-- An outcome with the captured trailer and the copy of the bytes blanked (R79, R90). -/
def blankTrailer : DecodeOutcome → DecodeOutcome
  | .ok (.heartbeat c) => .ok (.heartbeat { c with crc16 := 0#16, raw := [] })
  | .ok (.event e) => .ok (.event { e with common := { e.common with crc16 := 0#16, raw := [] } })
  | .error e => .error e

/-- An outcome with the copy of the bytes blanked (R90). -/
def blankRaw : DecodeOutcome → DecodeOutcome
  | .ok (.heartbeat c) => .ok (.heartbeat { c with raw := [] })
  | .ok (.event e) => .ok (.event { e with common := { e.common with raw := [] } })
  | .error e => .error e

/-- What RX.FRAME does with a decode outcome (R114), as operations. -/
def routeOps (d : DecodeOutcome) (now : TS) : List Instr :=
  match d with
  | .ok (.event e) => [.evqPush e]
  | .ok (.heartbeat c) => [.presRecHb c.deviceId now]
  | .error _ => []

/-- The events of a list pushed one after another, and the sum of the discards reported (R106). -/
def pushAll : List QueuedEvent → State → Option (State × Nat)
  | [], s => some (s, 0)
  | e :: es, s =>
    match exec (.evqPush e) s with
    | .next t => (pushAll es t).map fun r => (r.1, t.pushDiscards.getD 0 + r.2)
    | .fault _ => none
    | .refused _ => none

/-- Which agents may issue an instruction (R131). -/
def MayIssue (i : Instr) (a : Agent) : Prop :=
  match i with
  | .crcInit => True
  | .crcByte _ => True
  | .crcCompute (.given _) _ _ => True
  | .crcCompute .rxbuf _ _ => a = .rx
  | .evqTryPop => a = .wk
  | .wkStep _ => a = .wk
  | .presQuery _ => ∃ k, a = .qr k
  | .reset _ => a = .host
  | _ => a = .rx

/-- The instructions that may change the event FIFO (R15, R20). -/
def touchesQueue : Instr → Bool
  | .evqPush _ => true
  | .evqTryPop => true
  | .rxFrame => true
  | .wkStep _ => true
  | .reset _ => true
  | _ => false

/-- The instructions that may change the presence map (R15, R20). -/
def touchesPresence : Instr → Bool
  | .presRecHb _ _ => true
  | .rxFrame => true
  | .reset _ => true
  | _ => false

/-- An input with its timestamps renamed. -/
def renameInput (f : TS → TS) : Input → Input
  | .deliver rx => .deliver { rx with now := f rx.now }
  | .rxTurn => .rxTurn
  | .wkTurn a => .wkTurn a
  | .request i w => .request i { w with lanes := { w.lanes with now := f w.lanes.now } }

/-- An instruction with its timestamp renamed. -/
def renameInstr (f : TS → TS) : Instr → Instr
  | .presRecHb id now => .presRecHb id (f now)
  | i => i

/-- A query's answer with its timestamp renamed. -/
def renameAnswer (f : TS → TS) : QueryOutcome → QueryOutcome
  | .absent => .absent
  | .present id e => .present id { e with lastSeenAt := f e.lastSeenAt }

/-- A state with every timestamp it holds renamed: in RXBUF, in the presence map, in the readers' outputs and in what
the environment presents. -/
def renameState (f : TS → TS) (s : State) : State :=
  { s with
    rxbuf := { s.rxbuf with now := f s.rxbuf.now }
    presMap := s.presMap.map fun e => (e.1, { e.2 with lastSeenAt := f e.2.lastSeenAt })
    qry := s.qry.map fun e => (e.1, renameAnswer f e.2)
    inbox := s.inbox.map (renameInput f) }

/-- An answer of the machine with the timestamps of its next state renamed. -/
def renameResult (f : TS → TS) : Result → Result
  | .next t => .next (renameState f t)
  | .fault x => .fault x
  | .refused r => .refused r

/-- Two states that agree on everything an operation reads (R129): the stores, the configuration, RXBUF, the CRC
registers, the circumstances. -/
def SameOperands (s t : State) : Prop :=
  s.evqItems = t.evqItems ∧ s.presMap = t.presMap ∧ s.capacity = t.capacity ∧ s.cfg = t.cfg ∧ s.rxbuf = t.rxbuf
    ∧ s.crc = t.crc ∧ s.issue = t.issue

/-- An output of two executions: written alike, or left alone by both. -/
def Alike {α : Type} (out : State → α) (s s' t t' : State) : Prop :=
  out t = out t' ∨ (out t = out s ∧ out t' = out s')

end Sys2Proof.Spec

open Sys2Proof Sys2Proof.Machine Sys2Proof.Spec

/-! ## CRC16 -/

/-- R69: CRC.INIT loads `0xFFFF` into the issuing agent's register, whatever it held; nothing else changes. -/
def Obligations.CrcInitLoadsInitialValue : Prop :=
  ∀ s : State, Standing s → ∃ t, exec .crcInit s = .next t ∧ t = { s with crc := t.crc }
    ∧ ∀ a, t.crcOf a = if a = s.issue.agent then ⟨0xFFFF#16, true⟩ else s.crcOf a

/-- R70, R71: CRC.BYTE XORs the byte into bits 15..8 and runs eight rounds; nothing else changes. -/
def Obligations.CrcByteFoldsOneByte : Prop :=
  ∀ (b : Byte) (s : State), Standing s → (s.crcOf s.issue.agent).defined = true →
    ∃ t v, exec (.crcByte b) s = .next t ∧ t = { s with crc := t.crc }
      ∧ (∀ a, t.crcOf a = if a = s.issue.agent then ⟨v, true⟩ else s.crcOf a)
      ∧ v.toNat = crcByteVal (s.crcOf s.issue.agent).value.toNat b.toNat

/-- R72 (with R74 where the length is 0): CRC.COMPUTE of a range inside the bytes, given or in RXBUF, leaves the
checksum in the issuing agent's register, and nothing else changes; a range outside the bytes is refused. -/
def Obligations.CrcComputeOfARange : Prop :=
  ∀ (src : ByteSource) (bytes : List Byte) (offset length : Nat) (s : State), Standing s →
    src = .given bytes ∨ (src = .rxbuf ∧ s.rxbuf.data = bytes ∧ s.rxbuf.present = true ∧ s.issue.agent = .rx
      ∧ RxbufReady s) →
    (offset + length ≤ bytes.length →
      ∃ t v, exec (.crcCompute src offset length) s = .next t ∧ t = { s with crc := t.crc }
        ∧ (∀ a, t.crcOf a = if a = s.issue.agent then ⟨v, true⟩ else s.crcOf a)
        ∧ v.toNat = crcVal bytes offset length)
    ∧ (bytes.length < offset + length → exec (.crcCompute src offset length) s = .refused .crcRange)

/-- R74: the checksum of an empty range is `0xFFFF`. -/
def Obligations.CrcOfAnEmptyRange : Prop :=
  ∀ (bytes : List Byte) (offset : Nat) (s : State), Standing s → offset ≤ bytes.length →
    ∃ t, exec (.crcCompute (.given bytes) offset 0) s = .next t ∧ t.crcOf s.issue.agent = ⟨0xFFFF#16, true⟩

/-- R68: CRC.COMPUTE is CRC.INIT followed by one CRC.BYTE per byte of the range, in order. -/
def Obligations.CrcComputeIsInitThenBytes : Prop :=
  ∀ (bytes : List Byte) (offset length : Nat) (s : State), Standing s → offset + length ≤ bytes.length →
    ∃ t, runOps (.crcInit :: ((bytes.drop offset).take length).map .crcByte) s = some t
      ∧ exec (.crcCompute (.given bytes) offset length) s = .next t

/-- The incremental law, the residue law, and the residue of every acknowledgement frame: what R75 derives (the spec
marks it as its own inference) from R69 to R72. -/
def Obligations.CrcIncrementalAndResidueLaws : Prop :=
  (∀ a b : List Byte, crcRange (a ++ b) 0 (a.length + b.length) = b.foldl crcFold (crcRange a 0 a.length))
    ∧ (∀ m : List Byte,
        crcRange (m ++ [hiByte (crcRange m 0 m.length), loByte (crcRange m 0 m.length)]) 0 (m.length + 2) = 0x0000#16)
    ∧ ∀ (rx : RxBuf) (a : List Byte), ackOutcome rx = .ok a → crcRange a 0 18 = 0x0000#16

/-- Derived from R70 to R72: two sequences that differ in one byte have different checksums. -/
def Obligations.CrcDetectsOneChangedByte : Prop :=
  ∀ (m n : List Byte) (b b' : Byte), b ≠ b' →
    crcRange (m ++ b :: n) 0 (m.length + 1 + n.length) ≠ crcRange (m ++ b' :: n) 0 (m.length + 1 + n.length)

/-! ## PARSER -/

/-- R77: an absent payload gives EmptyPayload, whatever RXBUF's bytes; nothing else changes. -/
def Obligations.DecodeOfAnAbsentPayload : Prop :=
  ∀ s : State, RxReady s → s.issue.rxStable = true → s.rxbuf.present = false →
    exec .decDecode s = .next { s with dec := some (.error .emptyPayload) }

/-- R78: a present payload is classified by its length alone: 18 bytes are a heartbeat, 30 bytes an event frame, which
the later steps accept or reject, and every other length, 0 included, gives InvalidLength with that length; nothing
else changes. -/
def Obligations.DecodeClassifiesByLength : Prop :=
  ∀ s : State, RxReady s → RxbufReady s → s.rxbuf.present = true →
    ∃ d, exec .decDecode s = .next { s with dec := some d }
      ∧ (s.rxbuf.data.length = 18 → ∃ c, d = .ok (.heartbeat c))
      ∧ (s.rxbuf.data.length = 30 →
          (∃ e, d = .ok (.event e)) ∨ (∃ b, d = .error (.invalidBcd b)) ∨ ∃ c, d = .error (.invalidEventCode c))
      ∧ (s.rxbuf.data.length ≠ 18 → s.rxbuf.data.length ≠ 30 → d = .error (.invalidLength s.rxbuf.data.length))

/-- R81 (with R79, R80, R90): 18 bytes of any content are a heartbeat with these fields; nothing else changes. -/
def Obligations.DecodeOfAHeartbeat : Prop :=
  ∀ s : State, RxReady s → RxbufReady s → s.rxbuf.present = true → s.rxbuf.data.length = 18 →
    ∃ f, CommonOf s.cfg s.rxbuf.data f ∧ exec .decDecode s = .next { s with dec := some (.ok (.heartbeat f)) }

/-- R82 (with R56, R79, R80, R84, R90): 30 bytes with both zone bytes BCD and a leading digit 1, 3 or 6 are an event
with these fields; nothing else changes. -/
def Obligations.DecodeOfAnEvent : Prop :=
  ∀ s : State, RxReady s → RxbufReady s → s.rxbuf.present = true → s.rxbuf.data.length = 30 →
    IsBcd (byteVal s.rxbuf.data s.cfg.offZone) → IsBcd (byteVal s.rxbuf.data (s.cfg.offZone + 1)) →
    LeadOk (be16Val s.rxbuf.data s.cfg.offEventCode) →
    ∃ f g, CommonOf s.cfg s.rxbuf.data f ∧ EventOf s.cfg s.rxbuf.data g
      ∧ exec .decDecode s = .next { s with dec := some (.ok (.event ⟨f, g⟩)) }

/-- R83 (with R86): a zone byte with a nibble above 9 gives InvalidBcd with the first such byte, whatever the event
code; nothing else changes. -/
def Obligations.DecodeOfABadZoneByte : Prop :=
  ∀ s : State, RxReady s → RxbufReady s → s.rxbuf.present = true → s.rxbuf.data.length = 30 →
    ¬ (IsBcd (byteVal s.rxbuf.data s.cfg.offZone) ∧ IsBcd (byteVal s.rxbuf.data (s.cfg.offZone + 1))) →
    ∃ b : Byte,
      (IsBcd (byteVal s.rxbuf.data s.cfg.offZone) → b.toNat = byteVal s.rxbuf.data (s.cfg.offZone + 1))
      ∧ (¬ IsBcd (byteVal s.rxbuf.data s.cfg.offZone) → b.toNat = byteVal s.rxbuf.data s.cfg.offZone)
      ∧ exec .decDecode s = .next { s with dec := some (.error (.invalidBcd b)) }

/-- R85: with both zone bytes BCD, any leading digit but 1, 3 and 6 gives InvalidEventCode with the whole code;
nothing else changes. -/
def Obligations.DecodeOfABadEventCode : Prop :=
  ∀ s : State, RxReady s → RxbufReady s → s.rxbuf.present = true → s.rxbuf.data.length = 30 →
    IsBcd (byteVal s.rxbuf.data s.cfg.offZone) → IsBcd (byteVal s.rxbuf.data (s.cfg.offZone + 1)) →
    ¬ LeadOk (be16Val s.rxbuf.data s.cfg.offEventCode) →
    ∃ c : Half, c.toNat = be16Val s.rxbuf.data s.cfg.offEventCode
      ∧ exec .decDecode s = .next { s with dec := some (.error (.invalidEventCode c)) }

/-- The rows of the classes and of the inbound formats, as the model reads them (DESIGN CHOICE, log 6): each answers
what DEC.DECODE answers on a payload of that class or format, and changes nothing else. -/
def Obligations.ParserRowsRunTheParser : Prop :=
  ∀ (p : List Byte) (now : TS) (s : State), RxReady s → s.issue.rxStable = true →
    exec .rxClassAbsent s = .next { s with dec := some (.error .emptyPayload) }
    ∧ (∀ n : Half, n.toNat ≠ 18 → n.toNat ≠ 30 → n.toNat ≤ s.cfg.maxLen →
        exec (.rxClassBadLen n) s = .next { s with dec := some (.error (.invalidLength n.toNat)) })
    ∧ (p.length = 18 → ∃ d,
        exec .decDecode { s with rxbuf := ⟨true, p, now⟩ } = .next { s with rxbuf := ⟨true, p, now⟩, dec := some d }
          ∧ exec (.hb18 p) s = .next { s with dec := some d }
          ∧ exec (.rxClassHeartbeat p) s = .next { s with dec := some d })
    ∧ (p.length = 30 → ∃ d,
        exec .decDecode { s with rxbuf := ⟨true, p, now⟩ } = .next { s with rxbuf := ⟨true, p, now⟩, dec := some d }
          ∧ exec (.ev30 p) s = .next { s with dec := some d }
          ∧ exec (.rxClassEvent p) s = .next { s with dec := some d })

/-- What R87 derives (the spec marks it as its own inference): DEC.DECODE always ends, writes its outputs only, and its
outcome is a function of `present` and, of a present payload, its bytes: two states that agree on these (and on the
configuration) get the same outcome. -/
def Obligations.DecodeIsAFunctionOfItsOperand : Prop :=
  ∀ s s' : State, RxReady s → RxbufReady s → RxReady s' → RxbufReady s' → s.cfg = s'.cfg →
    s.rxbuf.present = s'.rxbuf.present → (s.rxbuf.present = true → s.rxbuf.data = s'.rxbuf.data) →
    ∃ d, exec .decDecode s = .next { s with dec := some d } ∧ exec .decDecode s' = .next { s' with dec := some d }

/-- What R89 derives (the spec marks it as its own inference): a packet any operation newly accepts is a heartbeat of 18
raw bytes, or an event of 30 with a leading digit 1, 3 or 6 and a zone of at most 9999. -/
def Obligations.AcceptedPacketsAreWellFormed : Prop :=
  ∀ (i : Instr) (s t : State) (p : DecodedPacket), exec i s = .next t → t.dec = some (.ok p) →
    s.dec = some (.ok p)
      ∨ match p with
        | .heartbeat c => c.raw.length = 18
        | .event e => e.common.raw.length = 30 ∧ LeadOk e.fields.eventCode.toNat ∧ e.fields.zone ≤ 9999

/-- From R79, on the rows of the formats (DESIGN CHOICE, log 6): two frames of one format that differ in the trailer
only decode alike but for the captured trailer (and the copy of the bytes); no value of the trailer makes decoding fail.
-/
def Obligations.TrailerIsCapturedAndNeverChecked : Prop :=
  ∀ (p q : List Byte) (s : State), RxReady s → p.length = q.length → p.length = 18 ∨ p.length = 30 →
    (∀ k, k + 2 < p.length → p[k]? = q[k]?) →
    ∃ d d', blankTrailer d = blankTrailer d'
      ∧ exec (if p.length = 18 then .hb18 p else .ev30 p) s = .next { s with dec := some d }
      ∧ exec (if p.length = 18 then .hb18 q else .ev30 q) s = .next { s with dec := some d' }

/-- From R65 and R91, on the rows of the formats (DESIGN CHOICE, log 6): the outcome for a frame of either format
depends on the bytes at its fields' offsets only, but for the copy. -/
def Obligations.UnclaimedBytesAreIgnored : Prop :=
  ∀ (p q : List Byte) (s : State), RxReady s →
    (p.length = 30 → q.length = 30 → (∀ k ∈ eventOffsets s.cfg, p[k]? = q[k]?) →
      ∃ d d', blankRaw d = blankRaw d' ∧ exec (.ev30 p) s = .next { s with dec := some d }
        ∧ exec (.ev30 q) s = .next { s with dec := some d' })
    ∧ (p.length = 18 → q.length = 18 → (∀ k ∈ heartbeatOffsets s.cfg, p[k]? = q[k]?) →
      ∃ d d', blankRaw d = blankRaw d' ∧ exec (.hb18 p) s = .next { s with dec := some d }
        ∧ exec (.hb18 q) s = .next { s with dec := some d' })

/-- From R51 and R54, on the row of the format (DESIGN CHOICE, log 6) and with the model's own layout function: an EV30
frame laid out from any event's fields, over any unnamed bytes, decodes to these fields, under every configuration whose
fields do not overlap (DecodeOfAnEvent covers the others). -/
def Obligations.EventFrameDecodesToItsFields : Prop :=
  ∀ (base : List Byte) (f : CommonFields) (g : EventFields) (s : State), RxReady s → base.length = 30 →
    (eventOffsets s.cfg).Nodup → LeadOk g.eventCode.toNat → g.zone ≤ 9999 →
    exec (.ev30 (layoutEvent s.cfg base f g)) s =
      .next { s with dec := some (.ok (.event ⟨{ f with raw := layoutEvent s.cfg base f g }, g⟩)) }

/-- From R50 and R54: the same for an HB18 frame, on its row (DESIGN CHOICE, log 6); DecodeOfAHeartbeat covers the
configurations whose fields overlap. -/
def Obligations.HeartbeatFrameDecodesToItsFields : Prop :=
  ∀ (base : List Byte) (f : CommonFields) (s : State), RxReady s → base.length = 18 →
    (heartbeatOffsets s.cfg).Nodup →
    exec (.hb18 (layoutHeartbeat s.cfg base f)) s =
      .next { s with dec := some (.ok (.heartbeat { f with raw := layoutHeartbeat s.cfg base f })) }

/-- R55: which bytes are BCD and what they are worth; they are one-to-one with the numbers below 100 (V-BCD-12). -/
def Obligations.BcdOfAByte : Prop :=
  (∀ b : Byte, IsBcd b.toNat → bcd b = some (bcdVal b.toNat)) ∧ (∀ b : Byte, ¬ IsBcd b.toNat → bcd b = none)
    ∧ ∀ n : Nat, n < 100 → ∃ b : Byte, bcd b = some n ∧ ∀ b', bcd b' = some n → b' = b

/-- From R9 and R88: the renderings have the lengths of their fields and lose nothing. -/
def Obligations.RenderingsLoseNothing : Prop :=
  (∀ v : DevId, (deviceIdString v).length = 8) ∧ (∀ v w : DevId, deviceIdString v = deviceIdString w → v = w)
    ∧ (∀ v : Half, (accountString v).length = 4) ∧ (∀ v w : Half, accountString v = accountString w → v = w)
    ∧ (∀ v : Half, (eventCodeString v).length = 4) ∧ (∀ v w : Half, eventCodeString v = eventCodeString w → v = w)
    ∧ (∀ v : Byte, (partitionString v).length = 2) ∧ (∀ v w : Byte, partitionString v = partitionString w → v = w)
    ∧ (∀ z, z ≤ 999 → (zoneString z).length = 3) ∧ (∀ z, 999 < z → z ≤ 9999 → (zoneString z).length = 4)
    ∧ ∀ z z', zoneString z = zoneString z' → z = z'

/-! ## ACKGEN -/

/-- From R92, R94, R95 and R96: for a present payload of at least 12 bytes ACK.BUILD answers the 18 bytes of format
ACK18 and changes nothing else but ACKGEN's own register. That this register keeps the frame's checksum is the model's
reading (DEDUCED, log 18). -/
def Obligations.AckBuildMakesTheFrame : Prop :=
  ∀ s : State, RxReady s → RxbufReady s → s.rxbuf.present = true → 12 ≤ s.rxbuf.data.length →
    ∃ a v, AckOf (fun k => s.rxbuf.data.getD k 0#8) a ∧ v.toNat = be16Val a 16
      ∧ exec .ackBuild s = .next { s with ack := some (.ok a), ackCrc := ⟨v, true⟩ }

/-- R93: an absent payload or one shorter than 12 bytes gives PayloadTooShort; nothing else changes. -/
def Obligations.AckOfAShortPayload : Prop :=
  ∀ s : State, RxReady s → RxbufReady s → s.rxbuf.present = false ∨ s.rxbuf.data.length < 12 →
    exec .ackBuild s = .next { s with ack := some .payloadTooShort }

/-- From R62 and R94, as the model reads the rows (DESIGN CHOICE, log 6): the rows ACK18.FLAGS_18 and ACK18.FLAGS_08:
the frame for a command byte `0x00` has flags `0x18`, for any other `0x08`; the inbound bytes are those the rows name.
ACKGEN's register keeps the checksum (DEDUCED, log 18). -/
def Obligations.AckRowsSelectTheFlags : Prop :=
  ∀ (inb : Nat → Byte) (device : DevId) (frameId : Half) (s : State), RxReady s →
    device.toNat = 16777216 * (inb 4).toNat + 65536 * (inb 5).toNat + 256 * (inb 6).toNat + (inb 7).toNat →
    frameId.toNat = 256 * (inb 8).toNat + (inb 9).toNat →
    ∃ a v, AckOf inb a ∧ v.toNat = be16Val a 16
      ∧ (inb 11 = 0x00#8 → exec (.ackFlags18 device frameId (inb 10)) s =
          .next { s with ack := some (.ok a), ackCrc := ⟨v, true⟩ })
      ∧ (inb 11 ≠ 0x00#8 → exec (.ackFlags08 (inb 11) device frameId (inb 10)) s =
          .next { s with ack := some (.ok a), ackCrc := ⟨v, true⟩ })

/-- From R97: two payloads of at least 12 bytes that agree on the bytes 4 to 11 get the same acknowledgement, whatever
else the two states hold. -/
def Obligations.AckDependsOnEightBytes : Prop :=
  ∀ s s' : State, RxReady s → RxbufReady s → RxReady s' → RxbufReady s' →
    s.rxbuf.present = true → s'.rxbuf.present = true → 12 ≤ s.rxbuf.data.length → 12 ≤ s'.rxbuf.data.length →
    (∀ k, 4 ≤ k → k ≤ 11 → s.rxbuf.data[k]? = s'.rxbuf.data[k]?) →
    ∃ t t', exec .ackBuild s = .next t ∧ exec .ackBuild s' = .next t' ∧ t.ack = t'.ack

/-! ## EVQ -/

/-- R99: EVQ.PUSH appends the event and removes heads down to the capacity, counting them; nothing else changes. The
rule is total in the capacity, 0 included (R98). -/
def Obligations.PushAppendsAndDiscardsTheOldest : Prop :=
  ∀ (e : QueuedEvent) (s : State), eventValid e = true → PushReady s →
    ∃ t, exec (.evqPush e) s = .next t
      ∧ t.evqItems = (s.evqItems ++ [e]).drop (s.evqItems.length + 1 - s.capacity)
      ∧ t.pushDiscards = some (s.evqItems.length + 1 - s.capacity)
      ∧ t = { s with evqItems := t.evqItems, pushDiscards := t.pushDiscards }

/-- What R101 derives (the spec marks it as its own inference): from a state within the capacity a push discards nothing
when there is room, and exactly the oldest event when there is none. -/
def Obligations.AtMostOneDiscardPerPush : Prop :=
  ∀ (e : QueuedEvent) (s : State), eventValid e = true → PushReady s →
    1 ≤ s.capacity → s.evqItems.length ≤ s.capacity →
    ∃ t, exec (.evqPush e) s = .next t ∧ t.evqItems.length ≤ t.capacity
      ∧ (s.evqItems.length < s.capacity → t.pushDiscards = some 0 ∧ t.evqItems = s.evqItems ++ [e])
      ∧ (s.evqItems.length = s.capacity → t.pushDiscards = some 1 ∧ t.evqItems = s.evqItems.tail ++ [e])

/-- R100: EVQ.TRYPOP answers Empty from an empty FIFO and else removes and returns the head; nothing else changes. -/
def Obligations.TryPopTakesTheHead : Prop :=
  ∀ s : State, PopReady s →
    (s.evqItems = [] → exec .evqTryPop s = .next { s with pop := some .empty })
      ∧ ∀ e es, s.evqItems = e :: es →
        exec .evqTryPop s = .next { s with evqItems := es, pop := some (.event e) }

/-- What R106 derives (the spec marks it as its own inference): from an empty FIFO the pushes of any list discard as
many events as it has beyond the capacity, and the most recent ones survive in order; a single push discards 0 while
there were fewer than `C` pushes before it, else 1. -/
def Obligations.CapacityPlusKPushes : Prop :=
  ∀ (es : List QueuedEvent) (s : State), (∀ e ∈ es, eventValid e = true) → PushReady s → 1 ≤ s.capacity → s.evqItems = [] →
    ∃ t, pushAll es s = some (t, es.length - s.capacity)
      ∧ t.evqItems = es.drop (es.length - s.capacity)
      ∧ ∀ e, eventValid e = true → ∃ u, exec (.evqPush e) t = .next u
        ∧ u.pushDiscards = some (if es.length < s.capacity then 0 else 1)

/-- What R102 and I4 of R30 derive (the spec marks both as its own inference): in any run without RESET, under any
schedule, of transactions and of the sequencers' own turns, the events that were queued and those pushed are, in this
order, the events that left followed by those still queued; the popped ones are a subsequence of those that left, the
others that left are exactly the discards reported. -/
def Obligations.EveryRunKeepsFifoOrder : Prop :=
  ∀ (s t : State) (pushed popped : List QueuedEvent) (discards : Nat), Run s pushed popped discards t →
    ∃ out, s.evqItems ++ pushed = out ++ t.evqItems ∧ popped.Sublist out ∧ out.length = popped.length + discards

/-- From R103: a push and a pop take effect in one of the two orders, from an empty FIFO and from a full one. -/
def Obligations.PushAndPopInEitherOrder : Prop :=
  ∀ (e : QueuedEvent) (s : State) (rx wk : Issue), eventValid e = true → PushReady { s with issue := rx } →
    PopReady { s with issue := wk } → 1 ≤ s.capacity →
    (s.evqItems = [] →
      (∃ t u, exec (.evqPush e) { s with issue := rx } = .next t ∧ exec .evqTryPop { t with issue := wk } = .next u
        ∧ u.pop = some (.event e) ∧ u.evqItems = [])
      ∧ ∃ t u, exec .evqTryPop { s with issue := wk } = .next t ∧ exec (.evqPush e) { t with issue := rx } = .next u
        ∧ t.pop = some .empty ∧ u.evqItems = [e])
    ∧ ∀ e1 es, s.evqItems = e1 :: es → s.evqItems.length = s.capacity →
      (∃ t u, exec .evqTryPop { s with issue := wk } = .next t ∧ exec (.evqPush e) { t with issue := rx } = .next u
        ∧ t.pop = some (.event e1) ∧ u.pushDiscards = some 0 ∧ u.evqItems = es ++ [e])
      ∧ ∃ t u, exec (.evqPush e) { s with issue := rx } = .next t ∧ exec .evqTryPop { t with issue := wk } = .next u
        ∧ t.pushDiscards = some 1 ∧ u.pop = (es ++ [e]).head?.map .event ∧ u.evqItems = (es ++ [e]).tail

/-! ## PRES -/

/-- R108: PRES.RECHB sets the entry of its identifier to `{now, true}`; no other key and nothing else changes. -/
def Obligations.HeartbeatIsRecorded : Prop :=
  ∀ (id : DevId) (now : TS) (s : State), RecordReady s →
    ∃ t, exec (.presRecHb id now) s = .next t ∧ lookupKey t.presMap id.toNat = some ⟨now, true⟩
      ∧ (∀ id' : DevId, id' ≠ id → lookupKey t.presMap id'.toNat = lookupKey s.presMap id'.toNat)
      ∧ t = { s with presMap := t.presMap }

/-- From R110: PRES.QUERY answers the entry of its identifier, or Absent, on the issuing reader's outputs; nothing else
changes. That each reader has outputs of its own, so that another reader's are as before, is the model's reading
(DEDUCED, log 16). -/
def Obligations.QueryAnswersTheEntry : Prop :=
  ∀ (id : DevId) (k : Nat) (s : State), s.issue.agent = .qr k → Standing s →
    ∃ t, exec (.presQuery id) s = .next t
      ∧ (lookupKey s.presMap id.toNat = none → lookupKey t.qry k = some .absent)
      ∧ (∀ e, lookupKey s.presMap id.toNat = some e → lookupKey t.qry k = some (.present id e))
      ∧ (∀ k', k' ≠ k → lookupKey t.qry k' = lookupKey s.qry k')
      ∧ t = { s with qry := t.qry }

/-- R111: no operation but RESET removes an entry or sets `online` to false. -/
def Obligations.PresenceNeverExpires : Prop :=
  ∀ (i : Instr) (s t : State) (id : DevId) (e : PresenceEntry), isReset i = false → exec i s = .next t →
    lookupKey s.presMap id.toNat = some e →
    ∃ e', lookupKey t.presMap id.toNat = some e' ∧ (e.online = true → e'.online = true)

/-! ## The sequencers -/

/-- R113, and R68's expansion: RX.FRAME is DEC.DECODE, then the routing operation of its outcome, then ACK.BUILD; it
returns the two outcomes and the discards of its push, and hands the frame, if there is one, to the sender. Nothing is
said of the model's own field `rxPending` (log 11). -/
def Obligations.RxFrameIsDecodeRouteAcknowledge : Prop :=
  ∀ s : State, FrameReady s →
    ∃ t d u a v, exec .decDecode s = .next t ∧ t.dec = some d
      ∧ runOps (routeOps d s.rxbuf.now ++ [.ackBuild]) t = some u ∧ u.ack = some a
      ∧ exec .rxFrame s = .next v ∧ v = { u with
          rxPending := v.rxPending
          frameResult := some ⟨d, a, match d with
            | .ok (.event _) => u.pushDiscards.getD 0
            | _ => 0⟩
          sender := match a with
            | .ok f => some f
            | .payloadTooShort => none }

/-- R114: a heartbeat is recorded under the identifier of its bytes 4 to 7 with the reception time and not queued; an
accepted event is queued and not recorded; a decode error does neither; nothing else changes but the outputs of the
three operations and of RX.FRAME itself, and the model's own field `rxPending` (log 11). -/
def Obligations.RxFrameRoutesByKind : Prop :=
  ∀ s : State, FrameReady s →
    ∃ t r, exec .rxFrame s = .next t ∧ t.frameResult = some r ∧ t.dec = some r.dec
      ∧ (∀ c, r.dec = .ok (.heartbeat c) → t.evqItems = s.evqItems ∧ c.deviceId.toNat = be32Val s.rxbuf.data 4
          ∧ lookupKey t.presMap c.deviceId.toNat = some ⟨s.rxbuf.now, true⟩
          ∧ ∀ id : DevId, id ≠ c.deviceId → lookupKey t.presMap id.toNat = lookupKey s.presMap id.toNat)
      ∧ (∀ e, r.dec = .ok (.event e) → t.presMap = s.presMap
          ∧ t.evqItems = (s.evqItems ++ [e]).drop (s.evqItems.length + 1 - s.capacity)
          ∧ r.discards = s.evqItems.length + 1 - s.capacity)
      ∧ (∀ x, r.dec = .error x → t.presMap = s.presMap ∧ t.evqItems = s.evqItems ∧ r.discards = 0)
      ∧ t = { s with
          evqItems := t.evqItems, presMap := t.presMap, dec := t.dec, ack := t.ack, ackCrc := t.ackCrc
          pushDiscards := t.pushDiscards, frameResult := t.frameResult, sender := t.sender, rxPending := t.rxPending }
      ∧ ((∀ e, r.dec ≠ .ok (.event e)) → t.pushDiscards = s.pushDiscards)

/-- R115 (and R116): exactly the present payloads of at least 12 bytes are acknowledged, whatever the decode outcome;
for any other ACK.BUILD answers PayloadTooShort and nothing is handed to the sender. -/
def Obligations.EveryLongPayloadIsAcknowledged : Prop :=
  ∀ s : State, FrameReady s →
    ∃ t, exec .rxFrame s = .next t
      ∧ (s.rxbuf.present = true ∧ 12 ≤ s.rxbuf.data.length →
          ∃ a, t.ack = some (.ok a) ∧ t.sender = some a ∧ AckOf (fun k => s.rxbuf.data.getD k 0#8) a)
      ∧ (¬ (s.rxbuf.present = true ∧ 12 ≤ s.rxbuf.data.length) → t.ack = some .payloadTooShort ∧ t.sender = none)

/-- What R136 and R116 derive (the spec marks both as its own inference): the pairs of outcomes RX.FRAME can report, and
that neither store changes when nothing is sent. -/
def Obligations.RxFrameOutcomePairs : Prop :=
  ∀ s : State, FrameReady s →
    ∃ t r, exec .rxFrame s = .next t ∧ t.frameResult = some r
      ∧ (s.rxbuf.present = false → r.dec = .error .emptyPayload ∧ r.ack = .payloadTooShort)
      ∧ (s.rxbuf.present = true → s.rxbuf.data.length < 12 →
          r.dec = .error (.invalidLength s.rxbuf.data.length) ∧ r.ack = .payloadTooShort)
      ∧ (s.rxbuf.present = true → 12 ≤ s.rxbuf.data.length → ∃ a, r.ack = .ok a)
      ∧ (s.rxbuf.present = true → 12 ≤ s.rxbuf.data.length → s.rxbuf.data.length ≠ 18 → s.rxbuf.data.length ≠ 30 →
          r.dec = .error (.invalidLength s.rxbuf.data.length))
      ∧ (s.rxbuf.present = true → s.rxbuf.data.length = 18 → ∃ c, r.dec = .ok (.heartbeat c))
      ∧ (s.rxbuf.present = true → s.rxbuf.data.length = 30 →
          (∃ e, r.dec = .ok (.event e)) ∨ (∃ b, r.dec = .error (.invalidBcd b)) ∨ ∃ c, r.dec = .error (.invalidEventCode c))
      ∧ (r.ack = .payloadTooShort → t.evqItems = s.evqItems ∧ t.presMap = s.presMap)

/-- R117: WK.STEP pops one event and submits it, signalling a failure; the event is gone either way; from an empty
FIFO it submits nothing. Nothing else changes. -/
def Obligations.WkStepSubmitsTheHead : Prop :=
  ∀ (a : SinkAnswer) (s : State), PopReady s →
    (s.evqItems = [] → exec (.wkStep a) s =
        .next { s with pop := some .empty, sinkAnswer := none, sinkFailure := none })
      ∧ ∀ e es, s.evqItems = e :: es → exec (.wkStep a) s =
        .next { s with
          evqItems := es, pop := some (.event e), sinkAnswer := some a
          sinkFailure := if a = .failure then some e else none }

/-- From R152: whatever the sink answers, as many WK.STEPs as there are events empty the FIFO when nothing is pushed. -/
def Obligations.WorkerDrainsTheQueue : Prop :=
  ∀ (answers : List SinkAnswer) (s : State), PopReady s →
    s.evqItems.length ≤ answers.length →
    ∃ t, runOps (answers.map .wkStep) s = some t ∧ t.evqItems = [] ∧ t.presMap = s.presMap

/-! ## RESET -/

/-- R139: RESET empties both stores and sets the capacity, 500 when none is given. The configuration is as before
(R26 item 4). -/
def Obligations.ResetEmptiesTheStores : Prop :=
  ∀ (c : Option Nat) (s : State), ResetReady c s →
    ∃ t, exec (.reset c) s = .next t ∧ t.evqItems = [] ∧ t.presMap = []
      ∧ (∀ n, c = some n → t.capacity = n) ∧ (c = none → t.capacity = 500) ∧ t.cfg = s.cfg

/-- What R140 derives (the spec marks it as its own inference) and R27's table: after RESET no result output has a
value and no CRC register a defined one; RX waits for its first datagram and WK is about to poll; the first pop answers
Empty and every first query Absent. The outputs `frameResult`, `sender`, `sinkAnswer` and `sinkFailure` are the model's
own (DESIGN CHOICE, log 8), so are the sequencers' stages (log 11) and the mark of a defined register (log 5). -/
def Obligations.NothingIsLeftAfterReset : Prop :=
  ∀ (c : Option Nat) (s : State), ResetReady c s →
    ∃ t, exec (.reset c) s = .next t ∧ t.sender = none ∧ t.rxStage = .waiting ∧ t.rxPending = false
      ∧ t.wkStage = .polling ∧ t.dec = none ∧ t.ack = none ∧ t.pushDiscards = none ∧ t.pop = none
      ∧ (∀ k, lookupKey t.qry k = none) ∧ t.frameResult = none ∧ t.sinkAnswer = none ∧ t.sinkFailure = none
      ∧ (∀ a, (t.crcOf a).defined = false) ∧ t.ackCrc.defined = false
      ∧ (∀ wk : Issue, PopReady { s with issue := wk } →
          ∃ u, exec .evqTryPop { t with issue := wk } = .next u ∧ u.pop = some .empty)
      ∧ ∀ (qr : Issue) (k : Nat) (id : DevId), qr.agent = .qr k → Standing { s with issue := qr } →
          ∃ u, exec (.presQuery id) { t with issue := qr } = .next u ∧ lookupKey u.qry k = some .absent

/-! ## The contract -/

/-- From R131: an operation issued by an agent whose role does not allow it is refused. That CRC.COMPUTE on RXBUF is for
RX alone is the model's reading of R133 (DEDUCED, log 13); that the rows that are classes and formats are RX's is its
choice (DESIGN CHOICE, log 6). -/
def Obligations.OnlyTheAgentOfAPortUsesIt : Prop :=
  ∀ (i : Instr) (s : State), ¬ MayIssue i s.issue.agent → ∃ r, exec i s = .refused r

/-- From R137, items 1 to 5 and the operand of item 6 (item 7 cannot be written: the outputs are optional values): each
situation is refused under its own name by every operation it concerns, when everything else is as the contract asks.
That an RX.FRAME in progress counts as a push and as a writer of PRES, and a WK.STEP as a pop, is the model's reading
(DEDUCED, log 12); so is the refusal of a CRC.COMPUTE on an absent RXBUF (R36; DEDUCED, log 13). -/
def Obligations.ContractViolationsAreRefused : Prop :=
  (∀ (bytes : List Byte) (offset length : Nat) (s : State), Standing s → bytes.length < offset + length →
      exec (.crcCompute (.given bytes) offset length) s = .refused .crcRange)
  ∧ (∀ (e : QueuedEvent) (s : State), eventValid e = true → RxReady s →
      Op.evqPush ∈ s.issue.inProgress ∨ Op.rxFrame ∈ s.issue.inProgress →
      exec (.evqPush e) s = .refused .concurrentPush)
  ∧ (∀ s : State, RxReady s → RxbufReady s →
      Op.evqPush ∈ s.issue.inProgress ∨ Op.rxFrame ∈ s.issue.inProgress →
      exec .rxFrame s = .refused .concurrentPush)
  ∧ (∀ s : State, s.issue.agent = .wk → Standing s →
      Op.evqTryPop ∈ s.issue.inProgress ∨ Op.wkStep ∈ s.issue.inProgress →
      exec .evqTryPop s = .refused .concurrentPop ∧ ∀ a, exec (.wkStep a) s = .refused .concurrentPop)
  ∧ (∀ (id : DevId) (now : TS) (s : State), Standing s → s.issue.agent ≠ .rx →
      exec (.presRecHb id now) s = .refused .wrongAgent)
  ∧ (∀ (id : DevId) (now : TS) (s : State), RxReady s →
      Op.presRecHb ∈ s.issue.inProgress ∨ Op.rxFrame ∈ s.issue.inProgress →
      exec (.presRecHb id now) s = .refused .concurrentRecord)
  ∧ (∀ s : State, RxReady s → RxbufReady s → Alone s [.evqPush, .rxFrame] → Op.presRecHb ∈ s.issue.inProgress →
      exec .rxFrame s = .refused .concurrentRecord)
  ∧ (∀ s : State, RxReady s → s.issue.rxStable = false →
      exec .rxFrame s = .refused .rxbufChanged ∧ exec .decDecode s = .refused .rxbufChanged
        ∧ exec .ackBuild s = .refused .rxbufChanged
        ∧ ∀ offset length, exec (.crcCompute .rxbuf offset length) s = .refused .rxbufChanged)
  ∧ (∀ s : State, RxReady s → s.issue.rxStable = true → s.rxbuf.present = false →
      ∀ offset length, exec (.crcCompute .rxbuf offset length) s = .refused .noPayload)
  ∧ (∀ (c : Option Nat) (s : State), s.issue.agent = .host → Standing s → s.issue.inProgress ≠ [] →
      exec (.reset c) s = .refused .resetOverlap)
  ∧ (∀ s : State, RxReady s → s.issue.rxStable = true → s.rxbuf.present = true →
      s.cfg.maxLen < s.rxbuf.data.length →
      exec .decDecode s = .refused .payloadTooLong ∧ exec .ackBuild s = .refused .payloadTooLong
        ∧ exec .rxFrame s = .refused .payloadTooLong
        ∧ ∀ offset length, exec (.crcCompute .rxbuf offset length) s = .refused .payloadTooLong)
  ∧ (∀ s : State, s.issue.agent = .host → Standing s → s.issue.inProgress = [] →
      exec (.reset (some 0)) s = .refused .zeroCapacity)

/-- From R137 items 4, 6 and 8, with R141: no operation at all goes on under a configuration outside the constraints of
R4 on its parameters, `C` apart (checked at RESET only: DESIGN CHOICE, log 3), under the swapped layout, under the
enforcing CRC check, or beside a RESET; each is refused under its own name. That an operation beside a RESET is refused
at its own step is the model's reading (DEDUCED, log 12). -/
def Obligations.NoOperationGoesOnOutsideTheConfiguration : Prop :=
  ∀ (i : Instr) (s : State),
    (cfgValid s.cfg = false → exec i s = .refused .badConfiguration)
    ∧ (cfgValid s.cfg = true → s.cfg.fieldLayout = .bcdSwapped → exec i s = .refused .swappedLayout)
    ∧ (cfgValid s.cfg = true → s.cfg.fieldLayout = .plainHex → s.cfg.crcCheck = .enforcing →
        exec i s = .refused .enforcingCrc)
    ∧ (cfgValid s.cfg = true → s.cfg.fieldLayout = .plainHex → s.cfg.crcCheck = .passive →
        Op.reset ∈ s.issue.inProgress → exec i s = .refused .resetOverlap)

/-- From U13 of spec/93 with R146: a CRC.BYTE before any CRC.INIT of its agent is refused. -/
def Obligations.CrcByteBeforeInitIsRefused : Prop :=
  ∀ (b : Byte) (s : State), Standing s → (s.crcOf s.issue.agent).defined = false →
    exec (.crcByte b) s = .refused .crcNotStarted

/-! ## The sequencers, step by step -/

/-- From R10 and R113, with the model's turns (DEDUCED, log 11; the inbox is log 1): three turns of RX on a delivered
datagram, with nothing between, reach the state RX.FRAME reaches; the first and the third change neither store. RX runs
once per datagram: with nothing delivered since, a turn changes nothing. -/
def Obligations.RxTurnsAreOneRxFramePerDatagram : Prop :=
  ∀ (s : State) (rest : List Input), s.rxStage = .waiting →
    (s.rxPending = true → FrameReady s.asRx → s.inbox = .rxTurn :: .rxTurn :: .rxTurn :: rest →
      ∃ t u v, step s = .next t ∧ step t = .next u ∧ step u = .next v
        ∧ exec .rxFrame { s.asRx with inbox := rest } = .next v
        ∧ t.evqItems = s.evqItems ∧ t.presMap = s.presMap ∧ v.evqItems = u.evqItems ∧ v.presMap = u.presMap
        ∧ v.rxStage = .waiting ∧ v.rxPending = false)
    ∧ (s.rxPending = false → s.inbox = .rxTurn :: rest → step s = .next { s with inbox := rest })

/-- From R10, R117 and R119, with the model's turns (DEDUCED, log 11; the inbox is log 1): from an empty FIFO one turn
of WK is a WK.STEP; from any other two turns are, the event leaving the FIFO with the first. -/
def Obligations.WkTurnsAreWkStep : Prop :=
  ∀ (s : State) (a b : SinkAnswer) (rest : List Input), s.wkStage = .polling → PopReady s.asWk →
    (s.evqItems = [] → s.inbox = .wkTurn a :: rest →
      ∃ t, step s = .next t ∧ exec (.wkStep a) { s.asWk with inbox := rest } = .next t)
    ∧ ∀ e es, s.evqItems = e :: es → s.inbox = .wkTurn a :: .wkTurn b :: rest →
      ∃ t u, step s = .next t ∧ step t = .next u ∧ exec (.wkStep b) { s.asWk with inbox := rest } = .next u
        ∧ t.evqItems = es

/-- From R113: "`RX.FRAME` behaves toward the other agents as if it were atomic at step 2". A turn of RX at its first or
its third step and a turn of WK reach the same state in either order, but for the model's own `issue` (log 2). -/
def Obligations.RxFrameIsAtomicAtItsRouting : Prop :=
  ∀ (s t u : State) (a : SinkAnswer) (rest : List Input), (∀ d, s.rxStage ≠ .decoded d) →
    s.inbox = .rxTurn :: .wkTurn a :: rest → step s = .next t → step t = .next u →
    ∃ t' u', step { s with inbox := .wkTurn a :: .rxTurn :: rest } = .next t' ∧ step t' = .next u'
      ∧ { u' with issue := u.issue } = u

/-! ## The whole machine -/

/-- What R30 (I1 to I3), R89 and R75 derive (the spec marks them as its own inference), with the canonical form of the
model's maps: every step keeps the invariants. -/
def Obligations.EveryStepKeepsTheInvariants : Prop :=
  ∀ s t : State, s.Inv → step s = .next t → t.Inv

/-- The invariants hold after reset (in the reset configuration, log 3). -/
def Obligations.ResetMeetsTheInvariants : Prop := State.reset.Inv

/-- From R15, R20 and R28: the event FIFO is changed by EVQ.PUSH, EVQ.TRYPOP, RX.FRAME, WK.STEP and RESET only, the
presence map by PRES.RECHB, RX.FRAME and RESET only, and no transaction but RESET changes both. -/
def Obligations.AtMostOneStoreChanges : Prop :=
  ∀ (i : Instr) (s t : State), exec i s = .next t →
    (touchesQueue i = false → t.evqItems = s.evqItems) ∧ (touchesPresence i = false → t.presMap = s.presMap)
      ∧ (isReset i = false → t.evqItems = s.evqItems ∨ t.presMap = s.presMap)

/-- From R19, R21 and R26: no operation changes the configuration or, but for RESET, the capacity or RXBUF; none changes
the model's own fields `issue` (DESIGN CHOICE, log 2) and `inbox` (DESIGN CHOICE, log 1). -/
def Obligations.ConfigurationAndOperandsAreFixed : Prop :=
  ∀ (i : Instr) (s t : State), exec i s = .next t →
    t.cfg = s.cfg ∧ t.issue = s.issue ∧ t.inbox = s.inbox
      ∧ (isReset i = false → t.capacity = s.capacity ∧ t.rxbuf = s.rxbuf)

/-- From R129: no error is sticky. Two states that agree on the stores, the configuration and the operands, whatever
their earlier outcomes, are answered alike: refused alike, or with the same stores and registers after and ACKGEN's own
register, every result output and the sequencers' fields written alike or left alone. -/
def Obligations.NoEarlierOutcomeMatters : Prop :=
  ∀ (i : Instr) (s s' : State), SameOperands s s' →
    (∀ r, exec i s = .refused r ↔ exec i s' = .refused r)
    ∧ ∀ t, exec i s = .next t → ∃ t', exec i s' = .next t' ∧ SameOperands t t'
      ∧ Alike State.dec s s' t t' ∧ Alike State.ack s s' t t' ∧ Alike State.pushDiscards s s' t t'
      ∧ Alike State.frameResult s s' t t' ∧ Alike State.sender s s' t t' ∧ Alike State.pop s s' t t'
      ∧ Alike State.sinkAnswer s s' t t' ∧ Alike State.sinkFailure s s' t t' ∧ Alike State.ackCrc s s' t t'
      ∧ Alike State.rxPending s s' t t' ∧ Alike State.rxStage s s' t t' ∧ Alike State.wkStage s s' t t'
      ∧ ∀ k, Alike (fun x => lookupKey x.qry k) s s' t t'

/-- From R132 and N4 of spec/91: a timestamp is stored and returned and nothing else. Renaming every timestamp by any
function, one that identifies two of them included, commutes with every operation and with every step. RESET puts the
model's own value into RXBUF (log 4), which the function is to keep; that a timestamp is a token is log 10. -/
def Obligations.TimestampsAreOnlyStoredAndReturned : Prop :=
  ∀ (f : TS → TS) (s : State),
    (∀ i, isReset i = false ∨ f State.reset.rxbuf.now = State.reset.rxbuf.now →
      exec (renameInstr f i) (renameState f s) = renameResult f (exec i s))
    ∧ (f State.reset.rxbuf.now = State.reset.rxbuf.now → step (renameState f s) = renameResult f (step s))

/-- What a step does: nothing with nothing presented; the delivery of a datagram, refused while RX is inside an
RX.FRAME; a turn of a sequencer; or exec of the instruction the presented word decodes to, under its circumstances and
those the sequencers add, refused when its agent is inside a sequence (R43). The inbox is the model's (log 1), so are
the circumstances (log 2), the turns (log 11) and the transaction word with its decoder (log 7). -/
def Obligations.StepRunsTheDecodedInstruction : Prop :=
  (∀ s : State, s.inbox = [] → step s = .next s)
  ∧ (∀ (s : State) (rx : RxBuf) (rest : List Input), s.inbox = .deliver rx :: rest →
      (s.rxStage = .waiting → step s = .next { s with rxbuf := rx, rxPending := true, inbox := rest })
      ∧ (s.rxStage ≠ .waiting → step s = .refused .rxbufChanged))
  ∧ (∀ (s : State) (rest : List Input), s.inbox = .rxTurn :: rest → step s = State.rxTurn { s with inbox := rest })
  ∧ (∀ (s : State) (a : SinkAnswer) (rest : List Input), s.inbox = .wkTurn a :: rest →
      step s = State.wkTurn { s with inbox := rest } a)
  ∧ (∀ (s : State) (issue : Issue) (x : Wire) (rest : List Input) (i : Instr), s.inbox = .request issue x :: rest →
      s.busy issue.agent = false → decode x = .ok i →
      step s = exec i { s with
        issue := { issue with inProgress := issue.inProgress ++ s.rxRunning ++ s.wkRunning }
        inbox := rest })
  ∧ (∀ (s : State) (issue : Issue) (x : Wire) (rest : List Input) (r : DecodeReject),
      s.inbox = .request issue x :: rest → s.busy issue.agent = false → decode x = .error r →
      step s = .refused .undecodable)
  ∧ ∀ (s : State) (issue : Issue) (x : Wire) (rest : List Input), s.inbox = .request issue x :: rest →
      (issue.agent = .rx ∧ s.rxStage ≠ .waiting) ∨ (issue.agent = .wk ∧ s.wkStage ≠ .polling) →
      step s = .refused .agentBusy

/-! ## Encoding -/

/-- The decoder reads back every well-formed instruction from its encoding, with every operand (the transaction word is
the model's, log 7). -/
def Obligations.DecodeOfEncodeIsTheInstruction : Prop :=
  ∀ i : Instr, i.wf = true → decode (encode i) = .ok i

/-- From R61 and R63, as the model lays a table row's bits out (DESIGN CHOICE, log 7): the words of the table: the
twelve OPIDs, and the two lengths. -/
def Obligations.TableWordsAreTheOperations : Prop :=
  decodeTableWord 8 0 = some .crcInit ∧ decodeTableWord 8 1 = some (.crcByte 0#8)
    ∧ decodeTableWord 8 2 = some (.crcCompute (.given []) 0 0) ∧ decodeTableWord 8 3 = some .decDecode
    ∧ decodeTableWord 8 4 = some .ackBuild ∧ (∃ e, decodeTableWord 8 5 = some (.evqPush e))
    ∧ decodeTableWord 8 6 = some .evqTryPop ∧ (∃ now, decodeTableWord 8 7 = some (.presRecHb 0#32 now))
    ∧ decodeTableWord 8 8 = some (.presQuery 0#32) ∧ decodeTableWord 8 9 = some .rxFrame
    ∧ (∃ a, decodeTableWord 8 10 = some (.wkStep a)) ∧ decodeTableWord 8 11 = some (.reset none)
    ∧ decodeTableWord 8 12 = none ∧ decodeTableWord 8 13 = none ∧ decodeTableWord 8 14 = none
    ∧ decodeTableWord 8 15 = none
    ∧ decodeTableWord 16 0x0012 = some (.rxClassHeartbeat (List.replicate 18 0#8))
    ∧ decodeTableWord 16 0x001E = some (.rxClassEvent (List.replicate 30 0#8))
    ∧ decodeTableWord 16 0 = some (.rxClassBadLen 0#16) ∧ decodeTableWord 16 31 = some (.rxClassBadLen 31#16)

/-- R60 (with R122): the numeric codes of the outcomes and what the info output carries. -/
def Obligations.StatusCodesOfTheOutcomes : Prop :=
  (∀ p, decStatus (.ok p) = 0#3 ∧ decPkt (.ok p) = some p ∧ decInfo (.ok p) = none)
  ∧ (decStatus (.error .emptyPayload) = 1#3 ∧ decInfo (.error .emptyPayload) = none)
  ∧ (∀ n, n < 65536 → decStatus (.error (.invalidLength n)) = 2#3
      ∧ (decInfo (.error (.invalidLength n))).map BitVec.toNat = some n)
  ∧ (∀ b, decStatus (.error (.invalidBcd b)) = 3#3
      ∧ (decInfo (.error (.invalidBcd b))).map BitVec.toNat = some b.toNat)
  ∧ (∀ c, decStatus (.error (.invalidEventCode c)) = 4#3 ∧ decInfo (.error (.invalidEventCode c)) = some c)
  ∧ (∀ e, decPkt (.error e) = none)
  ∧ (∀ f, ackStatus (.ok f) = 0#1 ∧ ackBuf (.ok f) = some f)
  ∧ ackStatus .payloadTooShort = 1#1 ∧ ackBuf .payloadTooShort = none
  ∧ popStatus .empty = 0#1 ∧ popEvent .empty = none
  ∧ (∀ e, popStatus (.event e) = 1#1 ∧ popEvent (.event e) = some e)
  ∧ qryStatus .absent = 0#1 ∧ qryEntry .absent = none
  ∧ ∀ id e, qryStatus (.present id e) = 1#1 ∧ qryEntry (.present id e) = some e
end

