-- ==== Sys2Proof/Laws/State.lean ====
section
/-! SUPPORT. One lemma per field per named update of the state, so that no later proof unfolds an update. -/

namespace Sys2Proof.Machine.State

/-! setCrc -/

@[simp] theorem setCrc_evqItems (s : State) (v : Half) : (s.setCrc v).evqItems = s.evqItems := rfl
@[simp] theorem setCrc_presMap (s : State) (v : Half) : (s.setCrc v).presMap = s.presMap := rfl
@[simp] theorem setCrc_capacity (s : State) (v : Half) : (s.setCrc v).capacity = s.capacity := rfl
@[simp] theorem setCrc_cfg (s : State) (v : Half) : (s.setCrc v).cfg = s.cfg := rfl
@[simp] theorem setCrc_rxbuf (s : State) (v : Half) : (s.setCrc v).rxbuf = s.rxbuf := rfl
@[simp] theorem setCrc_crc (s : State) (v : Half) : (s.setCrc v).crc = insertKey s.crc s.issue.agent.number ⟨v, true⟩ := rfl
@[simp] theorem setCrc_dec (s : State) (v : Half) : (s.setCrc v).dec = s.dec := rfl
@[simp] theorem setCrc_ack (s : State) (v : Half) : (s.setCrc v).ack = s.ack := rfl
@[simp] theorem setCrc_ackCrc (s : State) (v : Half) : (s.setCrc v).ackCrc = s.ackCrc := rfl
@[simp] theorem setCrc_pushDiscards (s : State) (v : Half) : (s.setCrc v).pushDiscards = s.pushDiscards := rfl
@[simp] theorem setCrc_frameResult (s : State) (v : Half) : (s.setCrc v).frameResult = s.frameResult := rfl
@[simp] theorem setCrc_sender (s : State) (v : Half) : (s.setCrc v).sender = s.sender := rfl
@[simp] theorem setCrc_pop (s : State) (v : Half) : (s.setCrc v).pop = s.pop := rfl
@[simp] theorem setCrc_sinkAnswer (s : State) (v : Half) : (s.setCrc v).sinkAnswer = s.sinkAnswer := rfl
@[simp] theorem setCrc_sinkFailure (s : State) (v : Half) : (s.setCrc v).sinkFailure = s.sinkFailure := rfl
@[simp] theorem setCrc_qry (s : State) (v : Half) : (s.setCrc v).qry = s.qry := rfl
@[simp] theorem setCrc_issue (s : State) (v : Half) : (s.setCrc v).issue = s.issue := rfl
@[simp] theorem setCrc_inbox (s : State) (v : Half) : (s.setCrc v).inbox = s.inbox := rfl
@[simp] theorem setCrc_rxPending (s : State) (v : Half) : (s.setCrc v).rxPending = s.rxPending := rfl
@[simp] theorem setCrc_rxStage (s : State) (v : Half) : (s.setCrc v).rxStage = s.rxStage := rfl
@[simp] theorem setCrc_wkStage (s : State) (v : Half) : (s.setCrc v).wkStage = s.wkStage := rfl

/-! raiseDecode -/

@[simp] theorem raiseDecode_evqItems (s : State) (e : DecodeError) : (s.raise (.decode e)).evqItems = s.evqItems := rfl
@[simp] theorem raiseDecode_presMap (s : State) (e : DecodeError) : (s.raise (.decode e)).presMap = s.presMap := rfl
@[simp] theorem raiseDecode_capacity (s : State) (e : DecodeError) : (s.raise (.decode e)).capacity = s.capacity := rfl
@[simp] theorem raiseDecode_cfg (s : State) (e : DecodeError) : (s.raise (.decode e)).cfg = s.cfg := rfl
@[simp] theorem raiseDecode_rxbuf (s : State) (e : DecodeError) : (s.raise (.decode e)).rxbuf = s.rxbuf := rfl
@[simp] theorem raiseDecode_crc (s : State) (e : DecodeError) : (s.raise (.decode e)).crc = s.crc := rfl
@[simp] theorem raiseDecode_dec (s : State) (e : DecodeError) : (s.raise (.decode e)).dec = some (.error e) := rfl
@[simp] theorem raiseDecode_ack (s : State) (e : DecodeError) : (s.raise (.decode e)).ack = s.ack := rfl
@[simp] theorem raiseDecode_ackCrc (s : State) (e : DecodeError) : (s.raise (.decode e)).ackCrc = s.ackCrc := rfl
@[simp] theorem raiseDecode_pushDiscards (s : State) (e : DecodeError) : (s.raise (.decode e)).pushDiscards = s.pushDiscards := rfl
@[simp] theorem raiseDecode_frameResult (s : State) (e : DecodeError) : (s.raise (.decode e)).frameResult = s.frameResult := rfl
@[simp] theorem raiseDecode_sender (s : State) (e : DecodeError) : (s.raise (.decode e)).sender = s.sender := rfl
@[simp] theorem raiseDecode_pop (s : State) (e : DecodeError) : (s.raise (.decode e)).pop = s.pop := rfl
@[simp] theorem raiseDecode_sinkAnswer (s : State) (e : DecodeError) : (s.raise (.decode e)).sinkAnswer = s.sinkAnswer := rfl
@[simp] theorem raiseDecode_sinkFailure (s : State) (e : DecodeError) : (s.raise (.decode e)).sinkFailure = s.sinkFailure := rfl
@[simp] theorem raiseDecode_qry (s : State) (e : DecodeError) : (s.raise (.decode e)).qry = s.qry := rfl
@[simp] theorem raiseDecode_issue (s : State) (e : DecodeError) : (s.raise (.decode e)).issue = s.issue := rfl
@[simp] theorem raiseDecode_inbox (s : State) (e : DecodeError) : (s.raise (.decode e)).inbox = s.inbox := rfl
@[simp] theorem raiseDecode_rxPending (s : State) (e : DecodeError) : (s.raise (.decode e)).rxPending = s.rxPending := rfl
@[simp] theorem raiseDecode_rxStage (s : State) (e : DecodeError) : (s.raise (.decode e)).rxStage = s.rxStage := rfl
@[simp] theorem raiseDecode_wkStage (s : State) (e : DecodeError) : (s.raise (.decode e)).wkStage = s.wkStage := rfl

/-! raiseAck -/

@[simp] theorem raiseAck_evqItems (s : State) : (s.raise .payloadTooShort).evqItems = s.evqItems := rfl
@[simp] theorem raiseAck_presMap (s : State) : (s.raise .payloadTooShort).presMap = s.presMap := rfl
@[simp] theorem raiseAck_capacity (s : State) : (s.raise .payloadTooShort).capacity = s.capacity := rfl
@[simp] theorem raiseAck_cfg (s : State) : (s.raise .payloadTooShort).cfg = s.cfg := rfl
@[simp] theorem raiseAck_rxbuf (s : State) : (s.raise .payloadTooShort).rxbuf = s.rxbuf := rfl
@[simp] theorem raiseAck_crc (s : State) : (s.raise .payloadTooShort).crc = s.crc := rfl
@[simp] theorem raiseAck_dec (s : State) : (s.raise .payloadTooShort).dec = s.dec := rfl
@[simp] theorem raiseAck_ack (s : State) : (s.raise .payloadTooShort).ack = some .payloadTooShort := rfl
@[simp] theorem raiseAck_ackCrc (s : State) : (s.raise .payloadTooShort).ackCrc = s.ackCrc := rfl
@[simp] theorem raiseAck_pushDiscards (s : State) : (s.raise .payloadTooShort).pushDiscards = s.pushDiscards := rfl
@[simp] theorem raiseAck_frameResult (s : State) : (s.raise .payloadTooShort).frameResult = s.frameResult := rfl
@[simp] theorem raiseAck_sender (s : State) : (s.raise .payloadTooShort).sender = s.sender := rfl
@[simp] theorem raiseAck_pop (s : State) : (s.raise .payloadTooShort).pop = s.pop := rfl
@[simp] theorem raiseAck_sinkAnswer (s : State) : (s.raise .payloadTooShort).sinkAnswer = s.sinkAnswer := rfl
@[simp] theorem raiseAck_sinkFailure (s : State) : (s.raise .payloadTooShort).sinkFailure = s.sinkFailure := rfl
@[simp] theorem raiseAck_qry (s : State) : (s.raise .payloadTooShort).qry = s.qry := rfl
@[simp] theorem raiseAck_issue (s : State) : (s.raise .payloadTooShort).issue = s.issue := rfl
@[simp] theorem raiseAck_inbox (s : State) : (s.raise .payloadTooShort).inbox = s.inbox := rfl
@[simp] theorem raiseAck_rxPending (s : State) : (s.raise .payloadTooShort).rxPending = s.rxPending := rfl
@[simp] theorem raiseAck_rxStage (s : State) : (s.raise .payloadTooShort).rxStage = s.rxStage := rfl
@[simp] theorem raiseAck_wkStage (s : State) : (s.raise .payloadTooShort).wkStage = s.wkStage := rfl

/-! endDecode -/

@[simp] theorem endDecode_evqItems (s : State) (d : DecodeOutcome) : (s.endDecode d).evqItems = s.evqItems := by cases d <;> rfl
@[simp] theorem endDecode_presMap (s : State) (d : DecodeOutcome) : (s.endDecode d).presMap = s.presMap := by cases d <;> rfl
@[simp] theorem endDecode_capacity (s : State) (d : DecodeOutcome) : (s.endDecode d).capacity = s.capacity := by cases d <;> rfl
@[simp] theorem endDecode_cfg (s : State) (d : DecodeOutcome) : (s.endDecode d).cfg = s.cfg := by cases d <;> rfl
@[simp] theorem endDecode_rxbuf (s : State) (d : DecodeOutcome) : (s.endDecode d).rxbuf = s.rxbuf := by cases d <;> rfl
@[simp] theorem endDecode_crc (s : State) (d : DecodeOutcome) : (s.endDecode d).crc = s.crc := by cases d <;> rfl
@[simp] theorem endDecode_dec (s : State) (d : DecodeOutcome) : (s.endDecode d).dec = some d := by cases d <;> rfl
@[simp] theorem endDecode_ack (s : State) (d : DecodeOutcome) : (s.endDecode d).ack = s.ack := by cases d <;> rfl
@[simp] theorem endDecode_ackCrc (s : State) (d : DecodeOutcome) : (s.endDecode d).ackCrc = s.ackCrc := by cases d <;> rfl
@[simp] theorem endDecode_pushDiscards (s : State) (d : DecodeOutcome) : (s.endDecode d).pushDiscards = s.pushDiscards := by cases d <;> rfl
@[simp] theorem endDecode_frameResult (s : State) (d : DecodeOutcome) : (s.endDecode d).frameResult = s.frameResult := by cases d <;> rfl
@[simp] theorem endDecode_sender (s : State) (d : DecodeOutcome) : (s.endDecode d).sender = s.sender := by cases d <;> rfl
@[simp] theorem endDecode_pop (s : State) (d : DecodeOutcome) : (s.endDecode d).pop = s.pop := by cases d <;> rfl
@[simp] theorem endDecode_sinkAnswer (s : State) (d : DecodeOutcome) : (s.endDecode d).sinkAnswer = s.sinkAnswer := by cases d <;> rfl
@[simp] theorem endDecode_sinkFailure (s : State) (d : DecodeOutcome) : (s.endDecode d).sinkFailure = s.sinkFailure := by cases d <;> rfl
@[simp] theorem endDecode_qry (s : State) (d : DecodeOutcome) : (s.endDecode d).qry = s.qry := by cases d <;> rfl
@[simp] theorem endDecode_issue (s : State) (d : DecodeOutcome) : (s.endDecode d).issue = s.issue := by cases d <;> rfl
@[simp] theorem endDecode_inbox (s : State) (d : DecodeOutcome) : (s.endDecode d).inbox = s.inbox := by cases d <;> rfl
@[simp] theorem endDecode_rxPending (s : State) (d : DecodeOutcome) : (s.endDecode d).rxPending = s.rxPending := by cases d <;> rfl
@[simp] theorem endDecode_rxStage (s : State) (d : DecodeOutcome) : (s.endDecode d).rxStage = s.rxStage := by cases d <;> rfl
@[simp] theorem endDecode_wkStage (s : State) (d : DecodeOutcome) : (s.endDecode d).wkStage = s.wkStage := by cases d <;> rfl

/-! endAck -/

@[simp] theorem endAck_evqItems (s : State) (h : Option (List Byte)) : (s.endAck h).evqItems = s.evqItems := by cases h <;> rfl
@[simp] theorem endAck_presMap (s : State) (h : Option (List Byte)) : (s.endAck h).presMap = s.presMap := by cases h <;> rfl
@[simp] theorem endAck_capacity (s : State) (h : Option (List Byte)) : (s.endAck h).capacity = s.capacity := by cases h <;> rfl
@[simp] theorem endAck_cfg (s : State) (h : Option (List Byte)) : (s.endAck h).cfg = s.cfg := by cases h <;> rfl
@[simp] theorem endAck_rxbuf (s : State) (h : Option (List Byte)) : (s.endAck h).rxbuf = s.rxbuf := by cases h <;> rfl
@[simp] theorem endAck_crc (s : State) (h : Option (List Byte)) : (s.endAck h).crc = s.crc := by cases h <;> rfl
@[simp] theorem endAck_dec (s : State) (h : Option (List Byte)) : (s.endAck h).dec = s.dec := by cases h <;> rfl
@[simp] theorem endAck_ack (s : State) (h : Option (List Byte)) : (s.endAck h).ack = some (h.elim .payloadTooShort fun x => .ok (ackSeal x)) := by cases h <;> rfl
@[simp] theorem endAck_ackCrc (s : State) (h : Option (List Byte)) : (s.endAck h).ackCrc = h.elim s.ackCrc fun x => ⟨ackSum x, true⟩ := by cases h <;> rfl
@[simp] theorem endAck_pushDiscards (s : State) (h : Option (List Byte)) : (s.endAck h).pushDiscards = s.pushDiscards := by cases h <;> rfl
@[simp] theorem endAck_frameResult (s : State) (h : Option (List Byte)) : (s.endAck h).frameResult = s.frameResult := by cases h <;> rfl
@[simp] theorem endAck_sender (s : State) (h : Option (List Byte)) : (s.endAck h).sender = s.sender := by cases h <;> rfl
@[simp] theorem endAck_pop (s : State) (h : Option (List Byte)) : (s.endAck h).pop = s.pop := by cases h <;> rfl
@[simp] theorem endAck_sinkAnswer (s : State) (h : Option (List Byte)) : (s.endAck h).sinkAnswer = s.sinkAnswer := by cases h <;> rfl
@[simp] theorem endAck_sinkFailure (s : State) (h : Option (List Byte)) : (s.endAck h).sinkFailure = s.sinkFailure := by cases h <;> rfl
@[simp] theorem endAck_qry (s : State) (h : Option (List Byte)) : (s.endAck h).qry = s.qry := by cases h <;> rfl
@[simp] theorem endAck_issue (s : State) (h : Option (List Byte)) : (s.endAck h).issue = s.issue := by cases h <;> rfl
@[simp] theorem endAck_inbox (s : State) (h : Option (List Byte)) : (s.endAck h).inbox = s.inbox := by cases h <;> rfl
@[simp] theorem endAck_rxPending (s : State) (h : Option (List Byte)) : (s.endAck h).rxPending = s.rxPending := by cases h <;> rfl
@[simp] theorem endAck_rxStage (s : State) (h : Option (List Byte)) : (s.endAck h).rxStage = s.rxStage := by cases h <;> rfl
@[simp] theorem endAck_wkStage (s : State) (h : Option (List Byte)) : (s.endAck h).wkStage = s.wkStage := by cases h <;> rfl

/-! push -/

@[simp] theorem push_evqItems (s : State) (e : QueuedEvent) : (s.push e).evqItems = (trimHead s.capacity (s.evqItems ++ [e])).1 := rfl
@[simp] theorem push_presMap (s : State) (e : QueuedEvent) : (s.push e).presMap = s.presMap := rfl
@[simp] theorem push_capacity (s : State) (e : QueuedEvent) : (s.push e).capacity = s.capacity := rfl
@[simp] theorem push_cfg (s : State) (e : QueuedEvent) : (s.push e).cfg = s.cfg := rfl
@[simp] theorem push_rxbuf (s : State) (e : QueuedEvent) : (s.push e).rxbuf = s.rxbuf := rfl
@[simp] theorem push_crc (s : State) (e : QueuedEvent) : (s.push e).crc = s.crc := rfl
@[simp] theorem push_dec (s : State) (e : QueuedEvent) : (s.push e).dec = s.dec := rfl
@[simp] theorem push_ack (s : State) (e : QueuedEvent) : (s.push e).ack = s.ack := rfl
@[simp] theorem push_ackCrc (s : State) (e : QueuedEvent) : (s.push e).ackCrc = s.ackCrc := rfl
@[simp] theorem push_pushDiscards (s : State) (e : QueuedEvent) : (s.push e).pushDiscards = some (trimHead s.capacity (s.evqItems ++ [e])).2 := rfl
@[simp] theorem push_frameResult (s : State) (e : QueuedEvent) : (s.push e).frameResult = s.frameResult := rfl
@[simp] theorem push_sender (s : State) (e : QueuedEvent) : (s.push e).sender = s.sender := rfl
@[simp] theorem push_pop (s : State) (e : QueuedEvent) : (s.push e).pop = s.pop := rfl
@[simp] theorem push_sinkAnswer (s : State) (e : QueuedEvent) : (s.push e).sinkAnswer = s.sinkAnswer := rfl
@[simp] theorem push_sinkFailure (s : State) (e : QueuedEvent) : (s.push e).sinkFailure = s.sinkFailure := rfl
@[simp] theorem push_qry (s : State) (e : QueuedEvent) : (s.push e).qry = s.qry := rfl
@[simp] theorem push_issue (s : State) (e : QueuedEvent) : (s.push e).issue = s.issue := rfl
@[simp] theorem push_inbox (s : State) (e : QueuedEvent) : (s.push e).inbox = s.inbox := rfl
@[simp] theorem push_rxPending (s : State) (e : QueuedEvent) : (s.push e).rxPending = s.rxPending := rfl
@[simp] theorem push_rxStage (s : State) (e : QueuedEvent) : (s.push e).rxStage = s.rxStage := rfl
@[simp] theorem push_wkStage (s : State) (e : QueuedEvent) : (s.push e).wkStage = s.wkStage := rfl

/-! popHead -/

@[simp] theorem popHead_evqItems (s : State) : (s.popHead).evqItems = s.evqItems.tail := by unfold State.popHead; split <;> simp_all
@[simp] theorem popHead_presMap (s : State) : (s.popHead).presMap = s.presMap := by unfold State.popHead; split <;> simp_all
@[simp] theorem popHead_capacity (s : State) : (s.popHead).capacity = s.capacity := by unfold State.popHead; split <;> simp_all
@[simp] theorem popHead_cfg (s : State) : (s.popHead).cfg = s.cfg := by unfold State.popHead; split <;> simp_all
@[simp] theorem popHead_rxbuf (s : State) : (s.popHead).rxbuf = s.rxbuf := by unfold State.popHead; split <;> simp_all
@[simp] theorem popHead_crc (s : State) : (s.popHead).crc = s.crc := by unfold State.popHead; split <;> simp_all
@[simp] theorem popHead_dec (s : State) : (s.popHead).dec = s.dec := by unfold State.popHead; split <;> simp_all
@[simp] theorem popHead_ack (s : State) : (s.popHead).ack = s.ack := by unfold State.popHead; split <;> simp_all
@[simp] theorem popHead_ackCrc (s : State) : (s.popHead).ackCrc = s.ackCrc := by unfold State.popHead; split <;> simp_all
@[simp] theorem popHead_pushDiscards (s : State) : (s.popHead).pushDiscards = s.pushDiscards := by unfold State.popHead; split <;> simp_all
@[simp] theorem popHead_frameResult (s : State) : (s.popHead).frameResult = s.frameResult := by unfold State.popHead; split <;> simp_all
@[simp] theorem popHead_sender (s : State) : (s.popHead).sender = s.sender := by unfold State.popHead; split <;> simp_all
@[simp] theorem popHead_pop (s : State) : (s.popHead).pop = some (s.evqItems.head?.elim .empty .event) := by unfold State.popHead; split <;> simp_all
@[simp] theorem popHead_sinkAnswer (s : State) : (s.popHead).sinkAnswer = s.sinkAnswer := by unfold State.popHead; split <;> simp_all
@[simp] theorem popHead_sinkFailure (s : State) : (s.popHead).sinkFailure = s.sinkFailure := by unfold State.popHead; split <;> simp_all
@[simp] theorem popHead_qry (s : State) : (s.popHead).qry = s.qry := by unfold State.popHead; split <;> simp_all
@[simp] theorem popHead_issue (s : State) : (s.popHead).issue = s.issue := by unfold State.popHead; split <;> simp_all
@[simp] theorem popHead_inbox (s : State) : (s.popHead).inbox = s.inbox := by unfold State.popHead; split <;> simp_all
@[simp] theorem popHead_rxPending (s : State) : (s.popHead).rxPending = s.rxPending := by unfold State.popHead; split <;> simp_all
@[simp] theorem popHead_rxStage (s : State) : (s.popHead).rxStage = s.rxStage := by unfold State.popHead; split <;> simp_all
@[simp] theorem popHead_wkStage (s : State) : (s.popHead).wkStage = s.wkStage := by unfold State.popHead; split <;> simp_all

/-! recordHb -/

@[simp] theorem recordHb_evqItems (s : State) (id : DevId) (now : TS) : (s.recordHb id now).evqItems = s.evqItems := rfl
@[simp] theorem recordHb_presMap (s : State) (id : DevId) (now : TS) : (s.recordHb id now).presMap = insertKey s.presMap id.toNat ⟨now, true⟩ := rfl
@[simp] theorem recordHb_capacity (s : State) (id : DevId) (now : TS) : (s.recordHb id now).capacity = s.capacity := rfl
@[simp] theorem recordHb_cfg (s : State) (id : DevId) (now : TS) : (s.recordHb id now).cfg = s.cfg := rfl
@[simp] theorem recordHb_rxbuf (s : State) (id : DevId) (now : TS) : (s.recordHb id now).rxbuf = s.rxbuf := rfl
@[simp] theorem recordHb_crc (s : State) (id : DevId) (now : TS) : (s.recordHb id now).crc = s.crc := rfl
@[simp] theorem recordHb_dec (s : State) (id : DevId) (now : TS) : (s.recordHb id now).dec = s.dec := rfl
@[simp] theorem recordHb_ack (s : State) (id : DevId) (now : TS) : (s.recordHb id now).ack = s.ack := rfl
@[simp] theorem recordHb_ackCrc (s : State) (id : DevId) (now : TS) : (s.recordHb id now).ackCrc = s.ackCrc := rfl
@[simp] theorem recordHb_pushDiscards (s : State) (id : DevId) (now : TS) : (s.recordHb id now).pushDiscards = s.pushDiscards := rfl
@[simp] theorem recordHb_frameResult (s : State) (id : DevId) (now : TS) : (s.recordHb id now).frameResult = s.frameResult := rfl
@[simp] theorem recordHb_sender (s : State) (id : DevId) (now : TS) : (s.recordHb id now).sender = s.sender := rfl
@[simp] theorem recordHb_pop (s : State) (id : DevId) (now : TS) : (s.recordHb id now).pop = s.pop := rfl
@[simp] theorem recordHb_sinkAnswer (s : State) (id : DevId) (now : TS) : (s.recordHb id now).sinkAnswer = s.sinkAnswer := rfl
@[simp] theorem recordHb_sinkFailure (s : State) (id : DevId) (now : TS) : (s.recordHb id now).sinkFailure = s.sinkFailure := rfl
@[simp] theorem recordHb_qry (s : State) (id : DevId) (now : TS) : (s.recordHb id now).qry = s.qry := rfl
@[simp] theorem recordHb_issue (s : State) (id : DevId) (now : TS) : (s.recordHb id now).issue = s.issue := rfl
@[simp] theorem recordHb_inbox (s : State) (id : DevId) (now : TS) : (s.recordHb id now).inbox = s.inbox := rfl
@[simp] theorem recordHb_rxPending (s : State) (id : DevId) (now : TS) : (s.recordHb id now).rxPending = s.rxPending := rfl
@[simp] theorem recordHb_rxStage (s : State) (id : DevId) (now : TS) : (s.recordHb id now).rxStage = s.rxStage := rfl
@[simp] theorem recordHb_wkStage (s : State) (id : DevId) (now : TS) : (s.recordHb id now).wkStage = s.wkStage := rfl

/-! setQry -/

@[simp] theorem setQry_evqItems (s : State) (k : Nat) (q : QueryOutcome) : (s.setQry k q).evqItems = s.evqItems := rfl
@[simp] theorem setQry_presMap (s : State) (k : Nat) (q : QueryOutcome) : (s.setQry k q).presMap = s.presMap := rfl
@[simp] theorem setQry_capacity (s : State) (k : Nat) (q : QueryOutcome) : (s.setQry k q).capacity = s.capacity := rfl
@[simp] theorem setQry_cfg (s : State) (k : Nat) (q : QueryOutcome) : (s.setQry k q).cfg = s.cfg := rfl
@[simp] theorem setQry_rxbuf (s : State) (k : Nat) (q : QueryOutcome) : (s.setQry k q).rxbuf = s.rxbuf := rfl
@[simp] theorem setQry_crc (s : State) (k : Nat) (q : QueryOutcome) : (s.setQry k q).crc = s.crc := rfl
@[simp] theorem setQry_dec (s : State) (k : Nat) (q : QueryOutcome) : (s.setQry k q).dec = s.dec := rfl
@[simp] theorem setQry_ack (s : State) (k : Nat) (q : QueryOutcome) : (s.setQry k q).ack = s.ack := rfl
@[simp] theorem setQry_ackCrc (s : State) (k : Nat) (q : QueryOutcome) : (s.setQry k q).ackCrc = s.ackCrc := rfl
@[simp] theorem setQry_pushDiscards (s : State) (k : Nat) (q : QueryOutcome) : (s.setQry k q).pushDiscards = s.pushDiscards := rfl
@[simp] theorem setQry_frameResult (s : State) (k : Nat) (q : QueryOutcome) : (s.setQry k q).frameResult = s.frameResult := rfl
@[simp] theorem setQry_sender (s : State) (k : Nat) (q : QueryOutcome) : (s.setQry k q).sender = s.sender := rfl
@[simp] theorem setQry_pop (s : State) (k : Nat) (q : QueryOutcome) : (s.setQry k q).pop = s.pop := rfl
@[simp] theorem setQry_sinkAnswer (s : State) (k : Nat) (q : QueryOutcome) : (s.setQry k q).sinkAnswer = s.sinkAnswer := rfl
@[simp] theorem setQry_sinkFailure (s : State) (k : Nat) (q : QueryOutcome) : (s.setQry k q).sinkFailure = s.sinkFailure := rfl
@[simp] theorem setQry_qry (s : State) (k : Nat) (q : QueryOutcome) : (s.setQry k q).qry = insertKey s.qry k q := rfl
@[simp] theorem setQry_issue (s : State) (k : Nat) (q : QueryOutcome) : (s.setQry k q).issue = s.issue := rfl
@[simp] theorem setQry_inbox (s : State) (k : Nat) (q : QueryOutcome) : (s.setQry k q).inbox = s.inbox := rfl
@[simp] theorem setQry_rxPending (s : State) (k : Nat) (q : QueryOutcome) : (s.setQry k q).rxPending = s.rxPending := rfl
@[simp] theorem setQry_rxStage (s : State) (k : Nat) (q : QueryOutcome) : (s.setQry k q).rxStage = s.rxStage := rfl
@[simp] theorem setQry_wkStage (s : State) (k : Nat) (q : QueryOutcome) : (s.setQry k q).wkStage = s.wkStage := rfl

/-! takeDelivery -/

@[simp] theorem takeDelivery_evqItems (s : State) (rx : RxBuf) (rest : List Input) : (s.takeDelivery rx rest).evqItems = s.evqItems := rfl
@[simp] theorem takeDelivery_presMap (s : State) (rx : RxBuf) (rest : List Input) : (s.takeDelivery rx rest).presMap = s.presMap := rfl
@[simp] theorem takeDelivery_capacity (s : State) (rx : RxBuf) (rest : List Input) : (s.takeDelivery rx rest).capacity = s.capacity := rfl
@[simp] theorem takeDelivery_cfg (s : State) (rx : RxBuf) (rest : List Input) : (s.takeDelivery rx rest).cfg = s.cfg := rfl
@[simp] theorem takeDelivery_rxbuf (s : State) (rx : RxBuf) (rest : List Input) : (s.takeDelivery rx rest).rxbuf = rx := rfl
@[simp] theorem takeDelivery_crc (s : State) (rx : RxBuf) (rest : List Input) : (s.takeDelivery rx rest).crc = s.crc := rfl
@[simp] theorem takeDelivery_dec (s : State) (rx : RxBuf) (rest : List Input) : (s.takeDelivery rx rest).dec = s.dec := rfl
@[simp] theorem takeDelivery_ack (s : State) (rx : RxBuf) (rest : List Input) : (s.takeDelivery rx rest).ack = s.ack := rfl
@[simp] theorem takeDelivery_ackCrc (s : State) (rx : RxBuf) (rest : List Input) : (s.takeDelivery rx rest).ackCrc = s.ackCrc := rfl
@[simp] theorem takeDelivery_pushDiscards (s : State) (rx : RxBuf) (rest : List Input) : (s.takeDelivery rx rest).pushDiscards = s.pushDiscards := rfl
@[simp] theorem takeDelivery_frameResult (s : State) (rx : RxBuf) (rest : List Input) : (s.takeDelivery rx rest).frameResult = s.frameResult := rfl
@[simp] theorem takeDelivery_sender (s : State) (rx : RxBuf) (rest : List Input) : (s.takeDelivery rx rest).sender = s.sender := rfl
@[simp] theorem takeDelivery_pop (s : State) (rx : RxBuf) (rest : List Input) : (s.takeDelivery rx rest).pop = s.pop := rfl
@[simp] theorem takeDelivery_sinkAnswer (s : State) (rx : RxBuf) (rest : List Input) : (s.takeDelivery rx rest).sinkAnswer = s.sinkAnswer := rfl
@[simp] theorem takeDelivery_sinkFailure (s : State) (rx : RxBuf) (rest : List Input) : (s.takeDelivery rx rest).sinkFailure = s.sinkFailure := rfl
@[simp] theorem takeDelivery_qry (s : State) (rx : RxBuf) (rest : List Input) : (s.takeDelivery rx rest).qry = s.qry := rfl
@[simp] theorem takeDelivery_issue (s : State) (rx : RxBuf) (rest : List Input) : (s.takeDelivery rx rest).issue = s.issue := rfl
@[simp] theorem takeDelivery_inbox (s : State) (rx : RxBuf) (rest : List Input) : (s.takeDelivery rx rest).inbox = rest := rfl
@[simp] theorem takeDelivery_rxPending (s : State) (rx : RxBuf) (rest : List Input) : (s.takeDelivery rx rest).rxPending = true := rfl
@[simp] theorem takeDelivery_rxStage (s : State) (rx : RxBuf) (rest : List Input) : (s.takeDelivery rx rest).rxStage = s.rxStage := rfl
@[simp] theorem takeDelivery_wkStage (s : State) (rx : RxBuf) (rest : List Input) : (s.takeDelivery rx rest).wkStage = s.wkStage := rfl

/-! takeRequest -/

@[simp] theorem takeRequest_evqItems (s : State) (i : Issue) (rest : List Input) : (s.takeRequest i rest).evqItems = s.evqItems := rfl
@[simp] theorem takeRequest_presMap (s : State) (i : Issue) (rest : List Input) : (s.takeRequest i rest).presMap = s.presMap := rfl
@[simp] theorem takeRequest_capacity (s : State) (i : Issue) (rest : List Input) : (s.takeRequest i rest).capacity = s.capacity := rfl
@[simp] theorem takeRequest_cfg (s : State) (i : Issue) (rest : List Input) : (s.takeRequest i rest).cfg = s.cfg := rfl
@[simp] theorem takeRequest_rxbuf (s : State) (i : Issue) (rest : List Input) : (s.takeRequest i rest).rxbuf = s.rxbuf := rfl
@[simp] theorem takeRequest_crc (s : State) (i : Issue) (rest : List Input) : (s.takeRequest i rest).crc = s.crc := rfl
@[simp] theorem takeRequest_dec (s : State) (i : Issue) (rest : List Input) : (s.takeRequest i rest).dec = s.dec := rfl
@[simp] theorem takeRequest_ack (s : State) (i : Issue) (rest : List Input) : (s.takeRequest i rest).ack = s.ack := rfl
@[simp] theorem takeRequest_ackCrc (s : State) (i : Issue) (rest : List Input) : (s.takeRequest i rest).ackCrc = s.ackCrc := rfl
@[simp] theorem takeRequest_pushDiscards (s : State) (i : Issue) (rest : List Input) : (s.takeRequest i rest).pushDiscards = s.pushDiscards := rfl
@[simp] theorem takeRequest_frameResult (s : State) (i : Issue) (rest : List Input) : (s.takeRequest i rest).frameResult = s.frameResult := rfl
@[simp] theorem takeRequest_sender (s : State) (i : Issue) (rest : List Input) : (s.takeRequest i rest).sender = s.sender := rfl
@[simp] theorem takeRequest_pop (s : State) (i : Issue) (rest : List Input) : (s.takeRequest i rest).pop = s.pop := rfl
@[simp] theorem takeRequest_sinkAnswer (s : State) (i : Issue) (rest : List Input) : (s.takeRequest i rest).sinkAnswer = s.sinkAnswer := rfl
@[simp] theorem takeRequest_sinkFailure (s : State) (i : Issue) (rest : List Input) : (s.takeRequest i rest).sinkFailure = s.sinkFailure := rfl
@[simp] theorem takeRequest_qry (s : State) (i : Issue) (rest : List Input) : (s.takeRequest i rest).qry = s.qry := rfl
@[simp] theorem takeRequest_issue (s : State) (i : Issue) (rest : List Input) : (s.takeRequest i rest).issue =
    { i with inProgress := i.inProgress ++ s.rxRunning ++ s.wkRunning } := rfl
@[simp] theorem takeRequest_inbox (s : State) (i : Issue) (rest : List Input) : (s.takeRequest i rest).inbox = rest := rfl
@[simp] theorem takeRequest_rxPending (s : State) (i : Issue) (rest : List Input) : (s.takeRequest i rest).rxPending = s.rxPending := rfl
@[simp] theorem takeRequest_rxStage (s : State) (i : Issue) (rest : List Input) : (s.takeRequest i rest).rxStage = s.rxStage := rfl
@[simp] theorem takeRequest_wkStage (s : State) (i : Issue) (rest : List Input) : (s.takeRequest i rest).wkStage = s.wkStage := rfl

/-! restart -/

@[simp] theorem restart_evqItems (s : State) (c : Nat) : (s.restart c).evqItems = [] := rfl
@[simp] theorem restart_presMap (s : State) (c : Nat) : (s.restart c).presMap = [] := rfl
@[simp] theorem restart_capacity (s : State) (c : Nat) : (s.restart c).capacity = c := rfl
@[simp] theorem restart_cfg (s : State) (c : Nat) : (s.restart c).cfg = s.cfg := rfl
@[simp] theorem restart_rxbuf (s : State) (c : Nat) : (s.restart c).rxbuf = ⟨false, [], ⟨[]⟩⟩ := rfl
@[simp] theorem restart_crc (s : State) (c : Nat) : (s.restart c).crc = [] := rfl
@[simp] theorem restart_dec (s : State) (c : Nat) : (s.restart c).dec = none := rfl
@[simp] theorem restart_ack (s : State) (c : Nat) : (s.restart c).ack = none := rfl
@[simp] theorem restart_ackCrc (s : State) (c : Nat) : (s.restart c).ackCrc = ⟨0#16, false⟩ := rfl
@[simp] theorem restart_pushDiscards (s : State) (c : Nat) : (s.restart c).pushDiscards = none := rfl
@[simp] theorem restart_frameResult (s : State) (c : Nat) : (s.restart c).frameResult = none := rfl
@[simp] theorem restart_sender (s : State) (c : Nat) : (s.restart c).sender = none := rfl
@[simp] theorem restart_pop (s : State) (c : Nat) : (s.restart c).pop = none := rfl
@[simp] theorem restart_sinkAnswer (s : State) (c : Nat) : (s.restart c).sinkAnswer = none := rfl
@[simp] theorem restart_sinkFailure (s : State) (c : Nat) : (s.restart c).sinkFailure = none := rfl
@[simp] theorem restart_qry (s : State) (c : Nat) : (s.restart c).qry = [] := rfl
@[simp] theorem restart_issue (s : State) (c : Nat) : (s.restart c).issue = s.issue := rfl
@[simp] theorem restart_inbox (s : State) (c : Nat) : (s.restart c).inbox = s.inbox := rfl
@[simp] theorem restart_rxPending (s : State) (c : Nat) : (s.restart c).rxPending = false := rfl
@[simp] theorem restart_rxStage (s : State) (c : Nat) : (s.restart c).rxStage = .waiting := rfl
@[simp] theorem restart_wkStage (s : State) (c : Nat) : (s.restart c).wkStage = .polling := rfl

/-! endSubmit -/

@[simp] theorem endSubmit_evqItems (s : State) (e : QueuedEvent) (a : SinkAnswer) : (s.endSubmit e a).evqItems = s.evqItems := rfl
@[simp] theorem endSubmit_presMap (s : State) (e : QueuedEvent) (a : SinkAnswer) : (s.endSubmit e a).presMap = s.presMap := rfl
@[simp] theorem endSubmit_capacity (s : State) (e : QueuedEvent) (a : SinkAnswer) : (s.endSubmit e a).capacity = s.capacity := rfl
@[simp] theorem endSubmit_cfg (s : State) (e : QueuedEvent) (a : SinkAnswer) : (s.endSubmit e a).cfg = s.cfg := rfl
@[simp] theorem endSubmit_rxbuf (s : State) (e : QueuedEvent) (a : SinkAnswer) : (s.endSubmit e a).rxbuf = s.rxbuf := rfl
@[simp] theorem endSubmit_rxPending (s : State) (e : QueuedEvent) (a : SinkAnswer) : (s.endSubmit e a).rxPending = s.rxPending := rfl
@[simp] theorem endSubmit_rxStage (s : State) (e : QueuedEvent) (a : SinkAnswer) : (s.endSubmit e a).rxStage = s.rxStage := rfl
@[simp] theorem endSubmit_crc (s : State) (e : QueuedEvent) (a : SinkAnswer) : (s.endSubmit e a).crc = s.crc := rfl
@[simp] theorem endSubmit_dec (s : State) (e : QueuedEvent) (a : SinkAnswer) : (s.endSubmit e a).dec = s.dec := rfl
@[simp] theorem endSubmit_ack (s : State) (e : QueuedEvent) (a : SinkAnswer) : (s.endSubmit e a).ack = s.ack := rfl
@[simp] theorem endSubmit_ackCrc (s : State) (e : QueuedEvent) (a : SinkAnswer) : (s.endSubmit e a).ackCrc = s.ackCrc := rfl
@[simp] theorem endSubmit_pushDiscards (s : State) (e : QueuedEvent) (a : SinkAnswer) : (s.endSubmit e a).pushDiscards = s.pushDiscards := rfl
@[simp] theorem endSubmit_frameResult (s : State) (e : QueuedEvent) (a : SinkAnswer) : (s.endSubmit e a).frameResult = s.frameResult := rfl
@[simp] theorem endSubmit_sender (s : State) (e : QueuedEvent) (a : SinkAnswer) : (s.endSubmit e a).sender = s.sender := rfl
@[simp] theorem endSubmit_pop (s : State) (e : QueuedEvent) (a : SinkAnswer) : (s.endSubmit e a).pop = s.pop := rfl
@[simp] theorem endSubmit_sinkAnswer (s : State) (e : QueuedEvent) (a : SinkAnswer) : (s.endSubmit e a).sinkAnswer = some a := rfl
@[simp] theorem endSubmit_sinkFailure (s : State) (e : QueuedEvent) (a : SinkAnswer) : (s.endSubmit e a).sinkFailure = if a = .failure then some e else none := by
  cases a <;> rfl
@[simp] theorem endSubmit_wkStage (s : State) (e : QueuedEvent) (a : SinkAnswer) : (s.endSubmit e a).wkStage = s.wkStage := rfl
@[simp] theorem endSubmit_qry (s : State) (e : QueuedEvent) (a : SinkAnswer) : (s.endSubmit e a).qry = s.qry := rfl
@[simp] theorem endSubmit_issue (s : State) (e : QueuedEvent) (a : SinkAnswer) : (s.endSubmit e a).issue = s.issue := rfl
@[simp] theorem endSubmit_inbox (s : State) (e : QueuedEvent) (a : SinkAnswer) : (s.endSubmit e a).inbox = s.inbox := rfl

/-! submit -/

@[simp] theorem submit_evqItems (s : State) (a : SinkAnswer) : (s.submit a).evqItems = s.evqItems.tail := by
  unfold State.submit; split <;> rename_i h <;> simp [h]
@[simp] theorem submit_presMap (s : State) (a : SinkAnswer) : (s.submit a).presMap = s.presMap := by
  unfold State.submit; split <;> simp
@[simp] theorem submit_capacity (s : State) (a : SinkAnswer) : (s.submit a).capacity = s.capacity := by
  unfold State.submit; split <;> simp
@[simp] theorem submit_cfg (s : State) (a : SinkAnswer) : (s.submit a).cfg = s.cfg := by
  unfold State.submit; split <;> simp
@[simp] theorem submit_rxbuf (s : State) (a : SinkAnswer) : (s.submit a).rxbuf = s.rxbuf := by
  unfold State.submit; split <;> simp
@[simp] theorem submit_crc (s : State) (a : SinkAnswer) : (s.submit a).crc = s.crc := by
  unfold State.submit; split <;> simp
@[simp] theorem submit_dec (s : State) (a : SinkAnswer) : (s.submit a).dec = s.dec := by
  unfold State.submit; split <;> simp
@[simp] theorem submit_ack (s : State) (a : SinkAnswer) : (s.submit a).ack = s.ack := by
  unfold State.submit; split <;> simp
@[simp] theorem submit_ackCrc (s : State) (a : SinkAnswer) : (s.submit a).ackCrc = s.ackCrc := by
  unfold State.submit; split <;> simp
@[simp] theorem submit_pushDiscards (s : State) (a : SinkAnswer) : (s.submit a).pushDiscards = s.pushDiscards := by
  unfold State.submit; split <;> simp
@[simp] theorem submit_frameResult (s : State) (a : SinkAnswer) : (s.submit a).frameResult = s.frameResult := by
  unfold State.submit; split <;> simp
@[simp] theorem submit_sender (s : State) (a : SinkAnswer) : (s.submit a).sender = s.sender := by
  unfold State.submit; split <;> simp
@[simp] theorem submit_pop (s : State) (a : SinkAnswer) : (s.submit a).pop = some (s.evqItems.head?.elim .empty .event) := by
  unfold State.submit; split <;> rename_i h <;> simp [h]
@[simp] theorem submit_sinkAnswer (s : State) (a : SinkAnswer) : (s.submit a).sinkAnswer = s.evqItems.head?.map fun _ => a := by
  unfold State.submit; split <;> rename_i h <;> simp [h]
@[simp] theorem submit_sinkFailure (s : State) (a : SinkAnswer) : (s.submit a).sinkFailure = if a = .failure then s.evqItems.head? else none := by
  unfold State.submit; split <;> rename_i h <;> cases a <;> simp [h]
@[simp] theorem submit_qry (s : State) (a : SinkAnswer) : (s.submit a).qry = s.qry := by
  unfold State.submit; split <;> simp
@[simp] theorem submit_issue (s : State) (a : SinkAnswer) : (s.submit a).issue = s.issue := by
  unfold State.submit; split <;> simp
@[simp] theorem submit_inbox (s : State) (a : SinkAnswer) : (s.submit a).inbox = s.inbox := by
  unfold State.submit; split <;> simp
@[simp] theorem submit_rxPending (s : State) (a : SinkAnswer) : (s.submit a).rxPending = s.rxPending := by
  unfold State.submit; split <;> simp
@[simp] theorem submit_rxStage (s : State) (a : SinkAnswer) : (s.submit a).rxStage = s.rxStage := by
  unfold State.submit; split <;> simp
@[simp] theorem submit_wkStage (s : State) (a : SinkAnswer) : (s.submit a).wkStage = s.wkStage := by
  unfold State.submit; split <;> simp

/-! endFrame -/

@[simp] theorem endFrame_evqItems (s : State) (d : DecodeOutcome) (n : Nat) : (s.endFrame d n).evqItems = s.evqItems := rfl
@[simp] theorem endFrame_presMap (s : State) (d : DecodeOutcome) (n : Nat) : (s.endFrame d n).presMap = s.presMap := rfl
@[simp] theorem endFrame_capacity (s : State) (d : DecodeOutcome) (n : Nat) : (s.endFrame d n).capacity = s.capacity := rfl
@[simp] theorem endFrame_cfg (s : State) (d : DecodeOutcome) (n : Nat) : (s.endFrame d n).cfg = s.cfg := rfl
@[simp] theorem endFrame_rxbuf (s : State) (d : DecodeOutcome) (n : Nat) : (s.endFrame d n).rxbuf = s.rxbuf := rfl
@[simp] theorem endFrame_rxPending (s : State) (d : DecodeOutcome) (n : Nat) : (s.endFrame d n).rxPending = false := rfl
@[simp] theorem endFrame_rxStage (s : State) (d : DecodeOutcome) (n : Nat) : (s.endFrame d n).rxStage = s.rxStage := rfl
@[simp] theorem endFrame_crc (s : State) (d : DecodeOutcome) (n : Nat) : (s.endFrame d n).crc = s.crc := rfl
@[simp] theorem endFrame_dec (s : State) (d : DecodeOutcome) (n : Nat) : (s.endFrame d n).dec = s.dec := rfl
@[simp] theorem endFrame_ack (s : State) (d : DecodeOutcome) (n : Nat) : (s.endFrame d n).ack = s.ack := rfl
@[simp] theorem endFrame_ackCrc (s : State) (d : DecodeOutcome) (n : Nat) : (s.endFrame d n).ackCrc = s.ackCrc := rfl
@[simp] theorem endFrame_pushDiscards (s : State) (d : DecodeOutcome) (n : Nat) : (s.endFrame d n).pushDiscards = s.pushDiscards := rfl
@[simp] theorem endFrame_frameResult (s : State) (d : DecodeOutcome) (n : Nat) : (s.endFrame d n).frameResult = some ⟨d, ackOutcome s.rxbuf, n⟩ := rfl
@[simp] theorem endFrame_sender (s : State) (d : DecodeOutcome) (n : Nat) : (s.endFrame d n).sender = ackBuf (ackOutcome s.rxbuf) := rfl
@[simp] theorem endFrame_pop (s : State) (d : DecodeOutcome) (n : Nat) : (s.endFrame d n).pop = s.pop := rfl
@[simp] theorem endFrame_sinkAnswer (s : State) (d : DecodeOutcome) (n : Nat) : (s.endFrame d n).sinkAnswer = s.sinkAnswer := rfl
@[simp] theorem endFrame_sinkFailure (s : State) (d : DecodeOutcome) (n : Nat) : (s.endFrame d n).sinkFailure = s.sinkFailure := rfl
@[simp] theorem endFrame_wkStage (s : State) (d : DecodeOutcome) (n : Nat) : (s.endFrame d n).wkStage = s.wkStage := rfl
@[simp] theorem endFrame_qry (s : State) (d : DecodeOutcome) (n : Nat) : (s.endFrame d n).qry = s.qry := rfl
@[simp] theorem endFrame_issue (s : State) (d : DecodeOutcome) (n : Nat) : (s.endFrame d n).issue = s.issue := rfl
@[simp] theorem endFrame_inbox (s : State) (d : DecodeOutcome) (n : Nat) : (s.endFrame d n).inbox = s.inbox := rfl

/-! route -/

@[simp] theorem route_capacity (s : State) (d : DecodeOutcome) : (s.route d).capacity = s.capacity := by unfold State.route; split <;> rfl
@[simp] theorem route_cfg (s : State) (d : DecodeOutcome) : (s.route d).cfg = s.cfg := by unfold State.route; split <;> rfl
@[simp] theorem route_rxbuf (s : State) (d : DecodeOutcome) : (s.route d).rxbuf = s.rxbuf := by unfold State.route; split <;> rfl
@[simp] theorem route_crc (s : State) (d : DecodeOutcome) : (s.route d).crc = s.crc := by unfold State.route; split <;> rfl
@[simp] theorem route_dec (s : State) (d : DecodeOutcome) : (s.route d).dec = s.dec := by unfold State.route; split <;> rfl
@[simp] theorem route_ack (s : State) (d : DecodeOutcome) : (s.route d).ack = s.ack := by unfold State.route; split <;> rfl
@[simp] theorem route_ackCrc (s : State) (d : DecodeOutcome) : (s.route d).ackCrc = s.ackCrc := by unfold State.route; split <;> rfl
@[simp] theorem route_frameResult (s : State) (d : DecodeOutcome) : (s.route d).frameResult = s.frameResult := by unfold State.route; split <;> rfl
@[simp] theorem route_sender (s : State) (d : DecodeOutcome) : (s.route d).sender = s.sender := by unfold State.route; split <;> rfl
@[simp] theorem route_pop (s : State) (d : DecodeOutcome) : (s.route d).pop = s.pop := by unfold State.route; split <;> rfl
@[simp] theorem route_sinkAnswer (s : State) (d : DecodeOutcome) : (s.route d).sinkAnswer = s.sinkAnswer := by unfold State.route; split <;> rfl
@[simp] theorem route_sinkFailure (s : State) (d : DecodeOutcome) : (s.route d).sinkFailure = s.sinkFailure := by unfold State.route; split <;> rfl
@[simp] theorem route_qry (s : State) (d : DecodeOutcome) : (s.route d).qry = s.qry := by unfold State.route; split <;> rfl
@[simp] theorem route_issue (s : State) (d : DecodeOutcome) : (s.route d).issue = s.issue := by unfold State.route; split <;> rfl
@[simp] theorem route_inbox (s : State) (d : DecodeOutcome) : (s.route d).inbox = s.inbox := by unfold State.route; split <;> rfl
@[simp] theorem route_rxPending (s : State) (d : DecodeOutcome) : (s.route d).rxPending = s.rxPending := by unfold State.route; split <;> rfl
@[simp] theorem route_rxStage (s : State) (d : DecodeOutcome) : (s.route d).rxStage = s.rxStage := by unfold State.route; split <;> rfl
@[simp] theorem route_wkStage (s : State) (d : DecodeOutcome) : (s.route d).wkStage = s.wkStage := by unfold State.route; split <;> rfl

@[simp] theorem route_event (s : State) (e : QueuedEvent) : s.route (.ok (.event e)) = s.push e := rfl
@[simp] theorem route_heartbeat (s : State) (c : CommonFields) :
    s.route (.ok (.heartbeat c)) = s.recordHb c.deviceId s.rxbuf.now := rfl
@[simp] theorem route_error (s : State) (e : DecodeError) : s.route (.error e) = s := rfl

/-! frame -/

@[simp] theorem frame_evqItems (s : State) : (s.frame).evqItems = (s.route (decodeRx s.cfg s.rxbuf)).evqItems := by
  cases h : decodeRx s.cfg s.rxbuf with
  | error e => simp [State.frame, State.route, h]
  | ok p => cases p <;> simp [State.frame, State.route, h]
@[simp] theorem frame_presMap (s : State) : (s.frame).presMap = (s.route (decodeRx s.cfg s.rxbuf)).presMap := by
  cases h : decodeRx s.cfg s.rxbuf with
  | error e => simp [State.frame, State.route, h]
  | ok p => cases p <;> simp [State.frame, State.route, h]
@[simp] theorem frame_capacity (s : State) : (s.frame).capacity = s.capacity := by
  simp [State.frame]
@[simp] theorem frame_cfg (s : State) : (s.frame).cfg = s.cfg := by
  simp [State.frame]
@[simp] theorem frame_rxbuf (s : State) : (s.frame).rxbuf = s.rxbuf := by
  simp [State.frame]
@[simp] theorem frame_crc (s : State) : (s.frame).crc = s.crc := by
  simp [State.frame]
@[simp] theorem frame_dec (s : State) : (s.frame).dec = some (decodeRx s.cfg s.rxbuf) := by
  simp [State.frame]
@[simp] theorem frame_ack (s : State) : (s.frame).ack = some (ackOutcome s.rxbuf) := by
  simp only [State.frame, ackOutcome]; cases headerOf s.rxbuf <;> rfl
@[simp] theorem frame_ackCrc (s : State) : (s.frame).ackCrc = (headerOf s.rxbuf).elim s.ackCrc fun x => ⟨ackSum x, true⟩ := by
  simp [State.frame]
@[simp] theorem frame_pushDiscards (s : State) : (s.frame).pushDiscards = (s.route (decodeRx s.cfg s.rxbuf)).pushDiscards := by
  cases h : decodeRx s.cfg s.rxbuf with
  | error e => simp [State.frame, State.route, h]
  | ok p => cases p <;> simp [State.frame, State.route, h]
@[simp] theorem frame_frameResult (s : State) : (s.frame).frameResult = some ⟨decodeRx s.cfg s.rxbuf, ackOutcome s.rxbuf, routeDiscards s (decodeRx s.cfg s.rxbuf)⟩ := by
  simp [State.frame]
@[simp] theorem frame_sender (s : State) : (s.frame).sender = ackBuf (ackOutcome s.rxbuf) := by
  simp [State.frame]
@[simp] theorem frame_pop (s : State) : (s.frame).pop = s.pop := by
  simp [State.frame]
@[simp] theorem frame_sinkAnswer (s : State) : (s.frame).sinkAnswer = s.sinkAnswer := by
  simp [State.frame]
@[simp] theorem frame_sinkFailure (s : State) : (s.frame).sinkFailure = s.sinkFailure := by
  simp [State.frame]
@[simp] theorem frame_qry (s : State) : (s.frame).qry = s.qry := by
  simp [State.frame]
@[simp] theorem frame_issue (s : State) : (s.frame).issue = s.issue := by
  simp [State.frame]
@[simp] theorem frame_inbox (s : State) : (s.frame).inbox = s.inbox := by
  simp [State.frame]
@[simp] theorem frame_rxPending (s : State) : (s.frame).rxPending = false := by
  simp [State.frame]
@[simp] theorem frame_rxStage (s : State) : (s.frame).rxStage = s.rxStage := by
  simp [State.frame]
@[simp] theorem frame_wkStage (s : State) : (s.frame).wkStage = s.wkStage := by
  simp [State.frame]

/-! setRxStage -/

@[simp] theorem setRxStage_evqItems (s : State) (x : RxStage) : (s.setRxStage x).evqItems = s.evqItems := rfl
@[simp] theorem setRxStage_presMap (s : State) (x : RxStage) : (s.setRxStage x).presMap = s.presMap := rfl
@[simp] theorem setRxStage_capacity (s : State) (x : RxStage) : (s.setRxStage x).capacity = s.capacity := rfl
@[simp] theorem setRxStage_cfg (s : State) (x : RxStage) : (s.setRxStage x).cfg = s.cfg := rfl
@[simp] theorem setRxStage_rxbuf (s : State) (x : RxStage) : (s.setRxStage x).rxbuf = s.rxbuf := rfl
@[simp] theorem setRxStage_rxPending (s : State) (x : RxStage) : (s.setRxStage x).rxPending = s.rxPending := rfl
@[simp] theorem setRxStage_rxStage (s : State) (x : RxStage) : (s.setRxStage x).rxStage = x := rfl
@[simp] theorem setRxStage_crc (s : State) (x : RxStage) : (s.setRxStage x).crc = s.crc := rfl
@[simp] theorem setRxStage_dec (s : State) (x : RxStage) : (s.setRxStage x).dec = s.dec := rfl
@[simp] theorem setRxStage_ack (s : State) (x : RxStage) : (s.setRxStage x).ack = s.ack := rfl
@[simp] theorem setRxStage_ackCrc (s : State) (x : RxStage) : (s.setRxStage x).ackCrc = s.ackCrc := rfl
@[simp] theorem setRxStage_pushDiscards (s : State) (x : RxStage) : (s.setRxStage x).pushDiscards = s.pushDiscards := rfl
@[simp] theorem setRxStage_frameResult (s : State) (x : RxStage) : (s.setRxStage x).frameResult = s.frameResult := rfl
@[simp] theorem setRxStage_sender (s : State) (x : RxStage) : (s.setRxStage x).sender = s.sender := rfl
@[simp] theorem setRxStage_pop (s : State) (x : RxStage) : (s.setRxStage x).pop = s.pop := rfl
@[simp] theorem setRxStage_sinkAnswer (s : State) (x : RxStage) : (s.setRxStage x).sinkAnswer = s.sinkAnswer := rfl
@[simp] theorem setRxStage_sinkFailure (s : State) (x : RxStage) : (s.setRxStage x).sinkFailure = s.sinkFailure := rfl
@[simp] theorem setRxStage_wkStage (s : State) (x : RxStage) : (s.setRxStage x).wkStage = s.wkStage := rfl
@[simp] theorem setRxStage_qry (s : State) (x : RxStage) : (s.setRxStage x).qry = s.qry := rfl
@[simp] theorem setRxStage_issue (s : State) (x : RxStage) : (s.setRxStage x).issue = s.issue := rfl
@[simp] theorem setRxStage_inbox (s : State) (x : RxStage) : (s.setRxStage x).inbox = s.inbox := rfl

/-! setWkStage -/

@[simp] theorem setWkStage_evqItems (s : State) (x : WkStage) : (s.setWkStage x).evqItems = s.evqItems := rfl
@[simp] theorem setWkStage_presMap (s : State) (x : WkStage) : (s.setWkStage x).presMap = s.presMap := rfl
@[simp] theorem setWkStage_capacity (s : State) (x : WkStage) : (s.setWkStage x).capacity = s.capacity := rfl
@[simp] theorem setWkStage_cfg (s : State) (x : WkStage) : (s.setWkStage x).cfg = s.cfg := rfl
@[simp] theorem setWkStage_rxbuf (s : State) (x : WkStage) : (s.setWkStage x).rxbuf = s.rxbuf := rfl
@[simp] theorem setWkStage_rxPending (s : State) (x : WkStage) : (s.setWkStage x).rxPending = s.rxPending := rfl
@[simp] theorem setWkStage_rxStage (s : State) (x : WkStage) : (s.setWkStage x).rxStage = s.rxStage := rfl
@[simp] theorem setWkStage_crc (s : State) (x : WkStage) : (s.setWkStage x).crc = s.crc := rfl
@[simp] theorem setWkStage_dec (s : State) (x : WkStage) : (s.setWkStage x).dec = s.dec := rfl
@[simp] theorem setWkStage_ack (s : State) (x : WkStage) : (s.setWkStage x).ack = s.ack := rfl
@[simp] theorem setWkStage_ackCrc (s : State) (x : WkStage) : (s.setWkStage x).ackCrc = s.ackCrc := rfl
@[simp] theorem setWkStage_pushDiscards (s : State) (x : WkStage) : (s.setWkStage x).pushDiscards = s.pushDiscards := rfl
@[simp] theorem setWkStage_frameResult (s : State) (x : WkStage) : (s.setWkStage x).frameResult = s.frameResult := rfl
@[simp] theorem setWkStage_sender (s : State) (x : WkStage) : (s.setWkStage x).sender = s.sender := rfl
@[simp] theorem setWkStage_pop (s : State) (x : WkStage) : (s.setWkStage x).pop = s.pop := rfl
@[simp] theorem setWkStage_sinkAnswer (s : State) (x : WkStage) : (s.setWkStage x).sinkAnswer = s.sinkAnswer := rfl
@[simp] theorem setWkStage_sinkFailure (s : State) (x : WkStage) : (s.setWkStage x).sinkFailure = s.sinkFailure := rfl
@[simp] theorem setWkStage_wkStage (s : State) (x : WkStage) : (s.setWkStage x).wkStage = x := rfl
@[simp] theorem setWkStage_qry (s : State) (x : WkStage) : (s.setWkStage x).qry = s.qry := rfl
@[simp] theorem setWkStage_issue (s : State) (x : WkStage) : (s.setWkStage x).issue = s.issue := rfl
@[simp] theorem setWkStage_inbox (s : State) (x : WkStage) : (s.setWkStage x).inbox = s.inbox := rfl

/-! asRx -/

@[simp] theorem asRx_evqItems (s : State) : (s.asRx).evqItems = s.evqItems := rfl
@[simp] theorem asRx_presMap (s : State) : (s.asRx).presMap = s.presMap := rfl
@[simp] theorem asRx_capacity (s : State) : (s.asRx).capacity = s.capacity := rfl
@[simp] theorem asRx_cfg (s : State) : (s.asRx).cfg = s.cfg := rfl
@[simp] theorem asRx_rxbuf (s : State) : (s.asRx).rxbuf = s.rxbuf := rfl
@[simp] theorem asRx_rxPending (s : State) : (s.asRx).rxPending = s.rxPending := rfl
@[simp] theorem asRx_rxStage (s : State) : (s.asRx).rxStage = s.rxStage := rfl
@[simp] theorem asRx_crc (s : State) : (s.asRx).crc = s.crc := rfl
@[simp] theorem asRx_dec (s : State) : (s.asRx).dec = s.dec := rfl
@[simp] theorem asRx_ack (s : State) : (s.asRx).ack = s.ack := rfl
@[simp] theorem asRx_ackCrc (s : State) : (s.asRx).ackCrc = s.ackCrc := rfl
@[simp] theorem asRx_pushDiscards (s : State) : (s.asRx).pushDiscards = s.pushDiscards := rfl
@[simp] theorem asRx_frameResult (s : State) : (s.asRx).frameResult = s.frameResult := rfl
@[simp] theorem asRx_sender (s : State) : (s.asRx).sender = s.sender := rfl
@[simp] theorem asRx_pop (s : State) : (s.asRx).pop = s.pop := rfl
@[simp] theorem asRx_sinkAnswer (s : State) : (s.asRx).sinkAnswer = s.sinkAnswer := rfl
@[simp] theorem asRx_sinkFailure (s : State) : (s.asRx).sinkFailure = s.sinkFailure := rfl
@[simp] theorem asRx_wkStage (s : State) : (s.asRx).wkStage = s.wkStage := rfl
@[simp] theorem asRx_qry (s : State) : (s.asRx).qry = s.qry := rfl
@[simp] theorem asRx_issue (s : State) : (s.asRx).issue = ⟨.rx, s.wkRunning, true⟩ := rfl
@[simp] theorem asRx_inbox (s : State) : (s.asRx).inbox = s.inbox := rfl

/-! asWk -/

@[simp] theorem asWk_evqItems (s : State) : (s.asWk).evqItems = s.evqItems := rfl
@[simp] theorem asWk_presMap (s : State) : (s.asWk).presMap = s.presMap := rfl
@[simp] theorem asWk_capacity (s : State) : (s.asWk).capacity = s.capacity := rfl
@[simp] theorem asWk_cfg (s : State) : (s.asWk).cfg = s.cfg := rfl
@[simp] theorem asWk_rxbuf (s : State) : (s.asWk).rxbuf = s.rxbuf := rfl
@[simp] theorem asWk_rxPending (s : State) : (s.asWk).rxPending = s.rxPending := rfl
@[simp] theorem asWk_rxStage (s : State) : (s.asWk).rxStage = s.rxStage := rfl
@[simp] theorem asWk_crc (s : State) : (s.asWk).crc = s.crc := rfl
@[simp] theorem asWk_dec (s : State) : (s.asWk).dec = s.dec := rfl
@[simp] theorem asWk_ack (s : State) : (s.asWk).ack = s.ack := rfl
@[simp] theorem asWk_ackCrc (s : State) : (s.asWk).ackCrc = s.ackCrc := rfl
@[simp] theorem asWk_pushDiscards (s : State) : (s.asWk).pushDiscards = s.pushDiscards := rfl
@[simp] theorem asWk_frameResult (s : State) : (s.asWk).frameResult = s.frameResult := rfl
@[simp] theorem asWk_sender (s : State) : (s.asWk).sender = s.sender := rfl
@[simp] theorem asWk_pop (s : State) : (s.asWk).pop = s.pop := rfl
@[simp] theorem asWk_sinkAnswer (s : State) : (s.asWk).sinkAnswer = s.sinkAnswer := rfl
@[simp] theorem asWk_sinkFailure (s : State) : (s.asWk).sinkFailure = s.sinkFailure := rfl
@[simp] theorem asWk_wkStage (s : State) : (s.asWk).wkStage = s.wkStage := rfl
@[simp] theorem asWk_qry (s : State) : (s.asWk).qry = s.qry := rfl
@[simp] theorem asWk_issue (s : State) : (s.asWk).issue = ⟨.wk, s.rxRunning, true⟩ := rfl
@[simp] theorem asWk_inbox (s : State) : (s.asWk).inbox = s.inbox := rfl

/-! endPoll -/

@[simp] theorem endPoll_evqItems (s : State) (l : List QueuedEvent) : (s.endPoll l).evqItems = s.evqItems := by cases l <;> rfl
@[simp] theorem endPoll_presMap (s : State) (l : List QueuedEvent) : (s.endPoll l).presMap = s.presMap := by cases l <;> rfl
@[simp] theorem endPoll_capacity (s : State) (l : List QueuedEvent) : (s.endPoll l).capacity = s.capacity := by cases l <;> rfl
@[simp] theorem endPoll_cfg (s : State) (l : List QueuedEvent) : (s.endPoll l).cfg = s.cfg := by cases l <;> rfl
@[simp] theorem endPoll_rxbuf (s : State) (l : List QueuedEvent) : (s.endPoll l).rxbuf = s.rxbuf := by cases l <;> rfl
@[simp] theorem endPoll_rxPending (s : State) (l : List QueuedEvent) : (s.endPoll l).rxPending = s.rxPending := by cases l <;> rfl
@[simp] theorem endPoll_rxStage (s : State) (l : List QueuedEvent) : (s.endPoll l).rxStage = s.rxStage := by cases l <;> rfl
@[simp] theorem endPoll_crc (s : State) (l : List QueuedEvent) : (s.endPoll l).crc = s.crc := by cases l <;> rfl
@[simp] theorem endPoll_dec (s : State) (l : List QueuedEvent) : (s.endPoll l).dec = s.dec := by cases l <;> rfl
@[simp] theorem endPoll_ack (s : State) (l : List QueuedEvent) : (s.endPoll l).ack = s.ack := by cases l <;> rfl
@[simp] theorem endPoll_ackCrc (s : State) (l : List QueuedEvent) : (s.endPoll l).ackCrc = s.ackCrc := by cases l <;> rfl
@[simp] theorem endPoll_pushDiscards (s : State) (l : List QueuedEvent) : (s.endPoll l).pushDiscards = s.pushDiscards := by cases l <;> rfl
@[simp] theorem endPoll_frameResult (s : State) (l : List QueuedEvent) : (s.endPoll l).frameResult = s.frameResult := by cases l <;> rfl
@[simp] theorem endPoll_sender (s : State) (l : List QueuedEvent) : (s.endPoll l).sender = s.sender := by cases l <;> rfl
@[simp] theorem endPoll_pop (s : State) (l : List QueuedEvent) : (s.endPoll l).pop = s.pop := by cases l <;> rfl
@[simp] theorem endPoll_sinkAnswer (s : State) (l : List QueuedEvent) : (s.endPoll l).sinkAnswer = if l = [] then none else s.sinkAnswer := by cases l <;> rfl
@[simp] theorem endPoll_sinkFailure (s : State) (l : List QueuedEvent) : (s.endPoll l).sinkFailure = if l = [] then none else s.sinkFailure := by cases l <;> rfl
@[simp] theorem endPoll_wkStage (s : State) (l : List QueuedEvent) : (s.endPoll l).wkStage = l.head?.elim s.wkStage .submitting := by cases l <;> rfl
@[simp] theorem endPoll_qry (s : State) (l : List QueuedEvent) : (s.endPoll l).qry = s.qry := by cases l <;> rfl
@[simp] theorem endPoll_issue (s : State) (l : List QueuedEvent) : (s.endPoll l).issue = s.issue := by cases l <;> rfl
@[simp] theorem endPoll_inbox (s : State) (l : List QueuedEvent) : (s.endPoll l).inbox = s.inbox := by cases l <;> rfl

end Sys2Proof.Machine.State
end

