-- ==== Sys2Proof/Laws/Frames.lean ====
section
/-! SUPPORT. Reading fields, the parser and the acknowledgement as functions of the receive operand, one lemma each. -/

namespace Sys2Proof.Machine

/-! ## Bytes and fields -/

/-- Two bytes concatenated, as a number (R6). -/
theorem append_toNat (a b : Byte) : (a ++ b : Half).toNat = 256 * a.toNat + b.toNat := by
  rw [BitVec.toNat_append, Nat.shiftLeft_eq, Nat.mul_comm, ← Nat.two_pow_add_eq_or_of_lt b.isLt]

/-- Two 16-bit values concatenated, as a number (R6). -/
theorem append_half_toNat (a b : Half) : (a ++ b : DevId).toNat = 65536 * a.toNat + b.toNat := by
  rw [BitVec.toNat_append, Nat.shiftLeft_eq, Nat.mul_comm, ← Nat.two_pow_add_eq_or_of_lt b.isLt]

/-- A 16-bit value is its two bytes. -/
theorem hi_append_lo (v : Half) : hiByte v ++ loByte v = v := by
  apply BitVec.eq_of_toNat_eq
  have := v.isLt
  rw [append_toNat]; simp [hiByte, loByte, Nat.shiftRight_eq_div_pow]; omega

/-- A 32-bit value is its two halves. -/
theorem halves_append (v : DevId) : (v.extractLsb' 16 16 : Half) ++ (v.extractLsb' 0 16 : Half) = v := by
  apply BitVec.eq_of_toNat_eq
  have := v.isLt
  rw [append_half_toNat]
  simp [Nat.shiftRight_eq_div_pow]; omega

theorem byteAt_congr {p q : List Byte} {k : Nat} (h : p[k]? = q[k]?) : byteAt p k = byteAt q k := by
  simp [byteAt, List.getD_eq_getElem?_getD, h]

/-- Reading a byte after one was set. -/
theorem byteAt_set (p : List Byte) (i k : Nat) (v : Byte) (h : i < p.length) :
    byteAt (p.set i v) k = if k = i then v else byteAt p k := by
  unfold byteAt
  rw [List.getD_eq_getElem?_getD, List.getD_eq_getElem?_getD, List.getElem?_set]
  split <;> simp_all [eq_comm]

@[simp] theorem put16_length (p : List Byte) (k : Nat) (v : Half) : (put16 p k v).length = p.length := by simp [put16]

theorem hiNibble_toNat (b : Byte) : (hiNibble b).toNat = b.toNat / 16 := by
  have := b.isLt
  simp [hiNibble, Nat.shiftRight_eq_div_pow]; omega

theorem loNibble_toNat (b : Byte) : (loNibble b).toNat = b.toNat % 16 := by
  simp [loNibble]

theorem bcd_le {b : Byte} {n : Nat} (h : bcd b = some n) : n ≤ 99 := by
  unfold bcd at h
  split at h
  · simp at h; omega
  · cases h

theorem zoneOf_le {a b : Byte} {n : Nat} (h : zoneOf a b = .ok n) : n ≤ 9999 := by
  unfold zoneOf at h
  split at h <;> cases h
  rename_i x y h1 h2
  have := bcd_le h1
  have := bcd_le h2
  omega

/-! ## The parser -/

theorem decodeRx_absent (c : Cfg) {rx : RxBuf} (h : rx.present = false) : decodeRx c rx = .error .emptyPayload := by
  simp [decodeRx, classify, h]

theorem decodeRx_heartbeat (c : Cfg) {rx : RxBuf} (h : rx.present = true) (hl : rx.data.length = 18) :
    decodeRx c rx = parseHeartbeat c rx.data := by
  simp [decodeRx, classify, h, RxBuf.len, hl, Config.lenHb]

theorem decodeRx_event (c : Cfg) {rx : RxBuf} (h : rx.present = true) (hl : rx.data.length = 30) :
    decodeRx c rx = parseEvent c rx.data := by
  simp [decodeRx, classify, h, RxBuf.len, hl, Config.lenHb, Config.lenEv]

theorem decodeRx_badLen (c : Cfg) {rx : RxBuf} (h : rx.present = true) (h1 : rx.data.length ≠ 18)
    (h2 : rx.data.length ≠ 30) : decodeRx c rx = .error (.invalidLength rx.data.length) := by
  simp [decodeRx, classify, h, RxBuf.len, h1, h2, Config.lenHb, Config.lenEv]

/-- What the event steps accept meets the data model (R89). -/
theorem parseEvent_valid {c : Cfg} {p : List Byte} (hl : p.length = 30) {q : DecodedPacket}
    (h : parseEvent c p = .ok q) : ∃ e, q = .event e ∧ eventValid e = true := by
  unfold parseEvent at h
  split at h
  · cases h
  · rename_i z hz
    split at h
    · rename_i hc
      cases h
      exact ⟨_, rfl, by simp [eventValid, commonFields, hl, hc, zoneOf_le hz, Config.lenEv]⟩
    · cases h

/-- What the parser accepts meets the data model (R89). -/
theorem decodeRx_valid {c : Cfg} {rx : RxBuf} {q : DecodedPacket} (h : decodeRx c rx = .ok q) : PacketValid q := by
  cases hp : rx.present with
  | false => rw [decodeRx_absent c hp] at h; cases h
  | true =>
    by_cases h18 : rx.data.length = 18
    · rw [decodeRx_heartbeat c hp h18] at h; cases h; exact h18
    · by_cases h30 : rx.data.length = 30
      · rw [decodeRx_event c hp h30] at h
        obtain ⟨e, rfl, he⟩ := parseEvent_valid h30 h
        exact he
      · rw [decodeRx_badLen c hp h18 h30] at h; cases h

/-! ## The acknowledgement -/

theorem headerOf_long {rx : RxBuf} (hp : rx.present = true) (hl : 12 ≤ rx.data.length) :
    headerOf rx = some (ackHeader (byteAt rx.data 11)
      [byteAt rx.data 4, byteAt rx.data 5, byteAt rx.data 6, byteAt rx.data 7, byteAt rx.data 8, byteAt rx.data 9,
        byteAt rx.data 10]) := by
  have : ¬ rx.data.length < 12 := by omega
  simp [headerOf, hp, RxBuf.len, Config.ackMinIn, this, Config.offCmd]

theorem headerOf_short {rx : RxBuf} (h : rx.present = false ∨ rx.data.length < 12) : headerOf rx = none := by
  rcases h with h | h <;> simp [headerOf, h, RxBuf.len, Config.ackMinIn]

theorem headerOf_length {rx : RxBuf} {h : List Byte} (hh : headerOf rx = some h) : h.length = 16 := by
  unfold headerOf at hh
  split at hh
  · cases hh
  · cases hh; simp [ackHeader]

theorem ackOutcome_of_header {rx : RxBuf} {h : List Byte} (hh : headerOf rx = some h) :
    ackOutcome rx = .ok (ackSeal h) := by
  rw [ackOutcome, hh]

theorem ackOutcome_short {rx : RxBuf} (h : rx.present = false ∨ rx.data.length < 12) :
    ackOutcome rx = .payloadTooShort := by
  rw [ackOutcome, headerOf_short h]

end Sys2Proof.Machine
end

