-- ==== Sys2Proof/Laws/Ops.lean ====
section
/-! SUPPORT. What the shared operations do, one lemma each: a contract's answer, maps in canonical form, the loop of
EVQ.PUSH. -/

namespace Sys2Proof.Machine

/-! ## The contract -/

@[simp] theorem firstRefusal_nil : firstRefusal [] = none := rfl
@[simp] theorem firstRefusal_none (cs : List (Option Refusal)) : firstRefusal (none :: cs) = firstRefusal cs := rfl
@[simp] theorem firstRefusal_some (r : Refusal) (cs : List (Option Refusal)) :
    firstRefusal (some r :: cs) = some r := rfl

/-- No check fails exactly when each holds. -/
theorem firstRefusal_eq_none {cs : List (Option Refusal)} : firstRefusal cs = none ↔ ∀ c ∈ cs, c = none := by
  induction cs with
  | nil => simp
  | cons c cs ih => cases c <;> simp [ih]

@[simp] theorem need_eq_none {b : Bool} {r : Refusal} : need b r = none ↔ b = true := by
  cases b <;> simp [need]

@[simp] theorem need_true (r : Refusal) : need true r = none := rfl
@[simp] theorem need_false (r : Refusal) : need false r = some r := rfl

/-- An operation under its contract goes on exactly when every check holds, and then has its effect. -/
theorem commit_next {s t u : State} {cs : List (Option Refusal)} :
    commit s cs t = .next u ↔ (∀ c ∈ standing s ++ cs, c = none) ∧ u = t := by
  unfold commit
  rw [← firstRefusal_eq_none]
  cases firstRefusal (standing s ++ cs) <;> simp [eq_comm]

/-- The first failing check is the answer. -/
theorem commit_refused {s t : State} {cs : List (Option Refusal)} {r : Refusal} :
    commit s cs t = .refused r ↔ firstRefusal (standing s ++ cs) = some r := by
  unfold commit
  cases firstRefusal (standing s ++ cs) <;> simp

@[simp] theorem noneInProgress_iff {s : State} {ops : List Op} :
    noneInProgress s ops = true ↔ ∀ o ∈ ops, o ∉ s.issue.inProgress := by
  simp [noneInProgress]

/-! ## Maps in canonical form -/

/-- Reading the key just set. -/
@[simp] theorem lookup_insert_same {α : Type} (m : KeyMap α) (q : Nat) (v : α) :
    lookupKey (insertKey m q v) q = some v := by
  induction m with
  | nil => simp [insertKey, lookupKey]
  | cons e m ih =>
    obtain ⟨k, w⟩ := e
    unfold insertKey
    split
    · simp [lookupKey]
    · split
      · simp [lookupKey]
      · have : k ≠ q := fun h => by simp_all
        simp [lookupKey, this, ih]

/-- Every other key reads as before. -/
theorem lookup_insert_other {α : Type} (m : KeyMap α) {q r : Nat} (v : α) (h : r ≠ q) :
    lookupKey (insertKey m q v) r = lookupKey m r := by
  induction m with
  | nil => simp [insertKey, lookupKey, Ne.symm h]
  | cons e m ih =>
    obtain ⟨k, w⟩ := e
    unfold insertKey
    split
    · simp [lookupKey, Ne.symm h]
    · split
      · subst_vars; simp [lookupKey, Ne.symm h]
      · simp [lookupKey, ih]

theorem keysRise_cons {α : Type} {a : Nat × α} {m : KeyMap α} :
    keysRise (a :: m) = true ↔ (∀ b ∈ m.head?, a.1 < b.1) ∧ keysRise m = true := by
  cases m <;> simp [keysRise]

theorem insertKey_head {α : Type} (m : KeyMap α) (q : Nat) (v : α) :
    ∀ b ∈ (insertKey m q v).head?, b.1 = q ∨ ∃ c ∈ m.head?, c.1 = b.1 := by
  cases m with
  | nil => simp [insertKey]
  | cons e m =>
    obtain ⟨k, w⟩ := e
    unfold insertKey
    split
    · simp
    · split <;> simp

/-- Setting a key keeps the canonical form. -/
theorem insertKey_keysRise {α : Type} {m : KeyMap α} (h : keysRise m = true) (q : Nat) (v : α) :
    keysRise (insertKey m q v) = true := by
  induction m with
  | nil => rfl
  | cons e m ih =>
    obtain ⟨k, w⟩ := e
    have hm := keysRise_cons.mp h
    unfold insertKey
    split
    · rename_i hq
      exact keysRise_cons.mpr ⟨by simpa using hq, h⟩
    · split
      · rename_i hq
        subst hq
        exact keysRise_cons.mpr ⟨hm.1, hm.2⟩
      · refine keysRise_cons.mpr ⟨fun b hb => ?_, ih hm.2⟩
        rcases insertKey_head m q v b hb with h1 | ⟨c, hc, h1⟩
        · simp_all; omega
        · exact h1 ▸ hm.1 c hc

/-- What is listed after setting a key was listed before, or is the new pair. -/
theorem mem_insertKey {α : Type} {m : KeyMap α} {q : Nat} {v : α} {e : Nat × α}
    (h : e ∈ insertKey m q v) : e = (q, v) ∨ e ∈ m := by
  induction m with
  | nil => simpa [insertKey] using h
  | cons a m ih =>
    obtain ⟨k, w⟩ := a
    unfold insertKey at h
    split at h
    · simpa using h
    · split at h
      · simp only [List.mem_cons] at h ⊢; tauto
      · simp only [List.mem_cons] at h ⊢
        rcases h with h | h
        · exact .inr (.inl h)
        · exact (ih h).imp_right .inr

/-- Setting a key twice leaves the second value. -/
theorem insert_insert {α : Type} (m : KeyMap α) (q : Nat) (v w : α) :
    insertKey (insertKey m q v) q w = insertKey m q w := by
  induction m with
  | nil => simp [insertKey]
  | cons e m ih =>
    obtain ⟨k, u⟩ := e
    by_cases h1 : q < k
    · simp [insertKey, h1]
    · by_cases h2 : q = k
      · subst h2; simp [insertKey]
      · simp [insertKey, h1, h2, ih]

/-- A key that reads as a value is listed with it. -/
theorem mem_of_lookup {α : Type} {m : KeyMap α} {q : Nat} {v : α} (h : lookupKey m q = some v) : (q, v) ∈ m := by
  induction m with
  | nil => simp [lookupKey] at h
  | cons a m ih =>
    obtain ⟨k, w⟩ := a
    unfold lookupKey at h
    split at h
    · simp_all
    · exact List.mem_cons_of_mem _ (ih h)

/-- PRES.RECHB keeps the canonical form of PRES storage. -/
theorem insertKey_wf {m : KeyMap PresenceEntry} (h : Memory.wf m = true) (id : DevId) (e : PresenceEntry) :
    Memory.wf (insertKey m id.toNat e) = true := by
  simp only [Memory.wf, Bool.and_eq_true, List.all_eq_true, decide_eq_true_eq] at h ⊢
  refine ⟨insertKey_keysRise h.1 _ _, fun x hx => ?_⟩
  rcases mem_insertKey hx with rfl | hx
  · exact id.isLt
  · exact h.2 x hx

theorem reset_memory_wf : Memory.wf State.reset.presMap = true := rfl

/-- Agents have different numbers. -/
theorem agentNumber_injective {a b : Agent} (h : a.number = b.number) : a = b := by
  cases a <;> cases b <;> simp only [Agent.number] at h <;> first | rfl | (congr; omega)

/-- Writing the issuer's CRC register: it takes the value, every other agent's is as before (R29). -/
theorem crcOf_setCrc (s : State) (v : Half) (a : Agent) :
    (s.setCrc v).crcOf a = if a = s.issue.agent then ⟨v, true⟩ else s.crcOf a := by
  split
  · subst_vars; simp [State.crcOf]
  · rename_i h
    simp only [State.crcOf, State.setCrc_crc]
    rw [lookup_insert_other _ _ fun hn => h (agentNumber_injective hn)]

/-- Writing the issuer's CRC register twice leaves the second value. -/
theorem setCrc_setCrc (s : State) (v w : Half) : (s.setCrc v).setCrc w = s.setCrc w := by
  simp [State.setCrc, insert_insert]

/-- DEC.DECODE writes its outputs and nothing else, whatever the outcome (R87). -/
theorem endDecode_eq (s : State) (d : DecodeOutcome) : s.endDecode d = { s with dec := some d } := by cases d <;> rfl

/-- A recorded heartbeat answers the queries of its identifier, and of no other (R108). -/
theorem answerQuery_recordHb (s : State) (id id' : DevId) (now : TS) :
    (s.recordHb id now).answerQuery id' = if id' = id then .present id ⟨now, true⟩ else s.answerQuery id' := by
  split
  · subst_vars; simp [State.answerQuery]
  · rename_i h
    have hn : id'.toNat ≠ id.toNat := fun hn => h (BitVec.eq_of_toNat_eq hn)
    simp only [State.answerQuery, State.recordHb_presMap, lookup_insert_other _ _ hn]

/-! ## The event FIFO -/

/-- The loop of EVQ.PUSH in closed form: the last `c` events stay, the others are counted (R99). -/
theorem trimHead_eq (c : Nat) (l : List QueuedEvent) : trimHead c l = (l.drop (l.length - c), l.length - c) := by
  induction l with
  | nil => simp [trimHead]
  | cons e es ih =>
    unfold trimHead
    split
    · rename_i h
      have : (e :: es).length - c = (es.length - c) + 1 := by simp only [List.length_cons]; omega
      rw [ih, this, List.drop_succ_cons]
    · rename_i h
      have : (e :: es).length - c = 0 := by simp only [List.length_cons]; omega
      simp only [this, List.drop_zero]

/-- What the loop removes and what it keeps are the list. -/
theorem trimHead_append (c : Nat) (l : List QueuedEvent) : l.take (trimHead c l).2 ++ (trimHead c l).1 = l := by
  simp [trimHead_eq]

end Sys2Proof.Machine
end

