-- ==== Sys2Proof/Laws/Exec.lean ====
section
/-! SUPPORT. Every instruction is an effect under a contract; what its next state can be, said once. -/

namespace Sys2Proof.Machine

/-- The checks of each instruction's own, in order. -/
def checks (i : Instr) (s : State) : List (Option Refusal) :=
  match i with
  | .crcInit => []
  | .crcByte _ => [need (s.crcOf s.issue.agent).defined .crcNotStarted]
  | .crcCompute src offset length =>
    sourceChecks s src ++ [need (offset + length ≤ (sourceBytes s src).length) .crcRange]
  | .decDecode => [rxRole s, rxStill s, rxFits s]
  | .ackBuild => [rxRole s, rxStill s, rxFits s]
  | .evqPush e => [need (Instr.evqPush e).wf .illFormedOperand, rxRole s, singlePush s]
  | .evqTryPop => [wkRole s, singlePop s]
  | .presRecHb _ _ => [rxRole s, singleRecord s]
  | .presQuery _ => [need s.issue.agent.isReader .wrongAgent]
  | .rxFrame => [rxRole s, rxStill s, rxFits s, singlePush s, singleRecord s]
  | .wkStep _ => [wkRole s, singlePop s]
  | .reset c =>
    [need (s.issue.agent = .host) .wrongAgent, need s.issue.inProgress.isEmpty .resetOverlap,
      need (1 ≤ resetCapacity c) .zeroCapacity]
  | .rxClassAbsent => [rxRole s]
  | .rxClassHeartbeat p => [need (Instr.rxClassHeartbeat p).wf .illFormedOperand, rxRole s]
  | .rxClassEvent p => [need (Instr.rxClassEvent p).wf .illFormedOperand, rxRole s]
  | .rxClassBadLen n =>
    [need (Instr.rxClassBadLen n).wf .illFormedOperand, rxRole s, need (n.toNat ≤ s.cfg.maxLen) .payloadTooLong]
  | .hb18 f => [need (Instr.hb18 f).wf .illFormedOperand, rxRole s]
  | .ev30 f => [need (Instr.ev30 f).wf .illFormedOperand, rxRole s]
  | .ackFlags18 _ _ _ => [rxRole s]
  | .ackFlags08 cmd d n c => [need (Instr.ackFlags08 cmd d n c).wf .illFormedOperand, rxRole s]

/-- The effect of each instruction once its contract holds. -/
def effect (i : Instr) (s : State) : State :=
  match i with
  | .crcInit => s.setCrc Config.crcInitValue
  | .crcByte b => s.setCrc (crcFold (s.crcOf s.issue.agent).value b)
  | .crcCompute src offset length => s.setCrc (crcRange (sourceBytes s src) offset length)
  | .decDecode => s.endDecode (decodeRx s.cfg s.rxbuf)
  | .ackBuild => s.endAck (headerOf s.rxbuf)
  | .evqPush e => s.push e
  | .evqTryPop => s.popHead
  | .presRecHb id now => s.recordHb id now
  | .presQuery id => s.setQry s.issue.agent.reader (s.answerQuery id)
  | .rxFrame => s.frame
  | .wkStep a => s.submit a
  | .reset c => s.restart (resetCapacity c)
  | .rxClassAbsent => s.raise (.decode .emptyPayload)
  | .rxClassHeartbeat p => s.endDecode (parseHeartbeat s.cfg p)
  | .rxClassEvent p => s.endDecode (parseEvent s.cfg p)
  | .rxClassBadLen n => s.raise (.decode (.invalidLength n.toNat))
  | .hb18 f => s.endDecode (parseHeartbeat s.cfg f)
  | .ev30 f => s.endDecode (parseEvent s.cfg f)
  | .ackFlags18 d n c => s.endAck (some (ackHeader 0x00#8 (copiedBytes d n c)))
  | .ackFlags08 cmd d n c => s.endAck (some (ackHeader cmd (copiedBytes d n c)))

/-- Every arm of exec is its effect under its contract. -/
theorem exec_eq_commit (i : Instr) (s : State) : exec i s = commit s (checks i s) (effect i s) := by
  cases i <;> rfl

/-- What every operation stands under, in the terms of the statements. -/
theorem standing_iff {s : State} : (∀ c ∈ standing s, c = none) ↔ Standing s := by
  simp [standing, Standing]

/-- Inversion: an instruction goes on exactly when its contract holds, and then to its effect. -/
theorem exec_next {i : Instr} {s t : State} :
    exec i s = .next t ↔ Standing s ∧ (∀ c ∈ checks i s, c = none) ∧ t = effect i s := by
  rw [exec_eq_commit, commit_next, ← standing_iff]
  simp only [List.mem_append, or_imp, forall_and, and_assoc]

theorem effect_of_next {i : Instr} {s t : State} (h : exec i s = .next t) : t = effect i s := (exec_next.mp h).2.2

/-- An instruction whose contract holds has its effect. -/
theorem exec_of_checks {i : Instr} {s : State} (hs : Standing s) (h : ∀ c ∈ checks i s, c = none) :
    exec i s = .next (effect i s) := exec_next.mpr ⟨hs, h, rfl⟩

/-- Under an admitted configuration with no RESET beside it, the first check of an instruction's own that fails is its
answer. -/
theorem exec_refused {i : Instr} {s : State} {r : Refusal} (hs : Standing s)
    (h : firstRefusal (checks i s) = some r) : exec i s = .refused r := by
  rw [exec_eq_commit, commit_refused]
  obtain ⟨h1, h2, h3, h4⟩ := hs
  have h4' : noneInProgress s [.reset] = true := by simpa using h4
  simp [standing, h1, h2, h3, h4', h]

theorem rxStill_iff {s : State} : rxStill s = none ↔ s.issue.rxStable = true := by simp [rxStill]

theorem rxFits_iff {s : State} : rxFits s = none ↔ (s.rxbuf.present = true → s.rxbuf.len ≤ s.cfg.maxLen) := by
  simp only [rxFits, need_eq_none, Bool.or_eq_true, Bool.not_eq_true', decide_eq_true_eq]
  cases s.rxbuf.present <;> simp

theorem rxbufReady_iff {s : State} : rxStill s = none ∧ rxFits s = none ↔ RxbufReady s := by
  rw [rxStill_iff, rxFits_iff, RxbufReady]

/-- RX.FRAME's own checks in the terms of the statements. -/
theorem frameReady_iff {s : State} : (Standing s ∧ ∀ c ∈ checks .rxFrame s, c = none) ↔ FrameReady s := by
  simp only [checks, FrameReady, RxReady, ← rxbufReady_iff]
  simp [rxRole, singlePush, singleRecord, Alone]
  tauto

theorem crcOf_congr {s t : State} (h : s.crc = t.crc) (a : Agent) : s.crcOf a = t.crcOf a := by
  simp [State.crcOf, h]

/-! ## What each operation answers when its contract holds -/

theorem exec_decDecode {s : State} (h : RxReady s) (hr : RxbufReady s) :
    exec .decDecode s = .next { s with dec := some (decodeRx s.cfg s.rxbuf) } := by
  obtain ⟨h1, h2⟩ := rxbufReady_iff.mpr hr
  rw [exec_of_checks h.2 (by simp [checks, rxRole, h.1, h1, h2])]
  simp [effect, endDecode_eq]

theorem exec_heartbeatRows {s : State} (h : RxReady s) {p : List Byte} (hl : p.length = 18) :
    exec (.hb18 p) s = .next { s with dec := some (parseHeartbeat s.cfg p) }
      ∧ exec (.rxClassHeartbeat p) s = .next { s with dec := some (parseHeartbeat s.cfg p) } := by
  constructor <;>
  · rw [exec_of_checks h.2 (by simp [checks, rxRole, h.1, Instr.wf, hl, Config.lenHb])]
    simp [effect, endDecode_eq]

theorem exec_eventRows {s : State} (h : RxReady s) {p : List Byte} (hl : p.length = 30) :
    exec (.ev30 p) s = .next { s with dec := some (parseEvent s.cfg p) }
      ∧ exec (.rxClassEvent p) s = .next { s with dec := some (parseEvent s.cfg p) } := by
  constructor <;>
  · rw [exec_of_checks h.2 (by simp [checks, rxRole, h.1, Instr.wf, hl, Config.lenEv])]
    simp [effect, endDecode_eq]

theorem exec_ackBuild {s : State} (h : RxReady s) (hr : RxbufReady s) :
    exec .ackBuild s = .next (s.endAck (headerOf s.rxbuf)) := by
  obtain ⟨h1, h2⟩ := rxbufReady_iff.mpr hr
  exact exec_of_checks h.2 (by simp [checks, rxRole, h.1, h1, h2])

theorem exec_evqPush {e : QueuedEvent} {s : State} (he : eventValid e = true) (h : PushReady s) :
    exec (.evqPush e) s = .next (s.push e) := by
  obtain ⟨⟨ha, hs⟩, hal⟩ := h
  simp only [Alone] at hal
  refine exec_of_checks hs ?_
  simp [checks, Instr.wf, he, rxRole, ha, singlePush] at hal ⊢
  exact hal

theorem exec_evqTryPop {s : State} (h : PopReady s) : exec .evqTryPop s = .next s.popHead := by
  obtain ⟨ha, hs, hal⟩ := h
  simp only [Alone] at hal
  refine exec_of_checks hs ?_
  simp [checks, wkRole, ha, singlePop] at hal ⊢
  exact hal

theorem exec_wkStep {a : SinkAnswer} {s : State} (h : PopReady s) : exec (.wkStep a) s = .next (s.submit a) := by
  obtain ⟨ha, hs, hal⟩ := h
  simp only [Alone] at hal
  refine exec_of_checks hs ?_
  simp [checks, wkRole, ha, singlePop] at hal ⊢
  exact hal

theorem exec_presRecHb {id : DevId} {now : TS} {s : State} (h : RecordReady s) :
    exec (.presRecHb id now) s = .next (s.recordHb id now) := by
  obtain ⟨⟨ha, hs⟩, hal⟩ := h
  simp only [Alone] at hal
  refine exec_of_checks hs ?_
  simp [checks, rxRole, ha, singleRecord] at hal ⊢
  exact hal

theorem exec_rxFrame {s : State} (h : FrameReady s) : exec .rxFrame s = .next s.frame :=
  have h := frameReady_iff.mpr h
  exec_of_checks h.1 h.2

theorem exec_reset {c : Option Nat} {s : State} (h : ResetReady c s) :
    exec (.reset c) s = .next (s.restart (resetCapacity c)) := by
  obtain ⟨ha, hs, hi, hc⟩ := h
  refine exec_of_checks hs ?_
  have : 1 ≤ resetCapacity c := by
    cases c with
    | none => decide
    | some n => exact hc n rfl
  simp [checks, ha, hi, this]

/-- What an instruction other than RESET does to PRES storage: nothing, or one entry set. -/
theorem effect_presMap (i : Instr) (s : State) (hr : isReset i = false) :
    (effect i s).presMap = s.presMap
      ∨ ∃ (id : DevId) (now : TS), (effect i s).presMap = insertKey s.presMap id.toNat ⟨now, true⟩ := by
  cases i <;> simp only [isReset, Bool.true_eq_false] at hr <;> simp only [effect]
  case presRecHb id now => exact .inr ⟨id, now, rfl⟩
  case rxFrame =>
    cases h : decodeRx s.cfg s.rxbuf with
    | error x => exact .inl (by simp [h])
    | ok p =>
      cases p with
      | heartbeat c => exact .inr ⟨c.deviceId, s.rxbuf.now, by simp [h]⟩
      | event e => exact .inl (by simp [h])
  all_goals exact .inl (by simp)

end Sys2Proof.Machine
end

