-- ==== Sys2Proof/Laws/PerInstr.lean ====
section
/-! SUPPORT. Statements about every instruction as syntax, one lemma per constructor. -/

namespace Sys2Proof.Laws

open Sys2Proof Sys2Proof.Machine

/-- The transaction that carries a well-formed instruction is not rejected by the decoder. -/
def Accepted.Statement (i : Instr) : Prop := i.wf = true → ∃ j, decode (encode i) = .ok j

theorem Accepted.crcInit : Accepted.Statement .crcInit := fun _ => ⟨_, rfl⟩
theorem Accepted.crcByte (b : Byte) : Accepted.Statement (.crcByte b) := fun _ => ⟨_, rfl⟩
theorem Accepted.crcCompute (src : ByteSource) (offset length : Nat) : Accepted.Statement (.crcCompute src offset length) := fun _ => ⟨_, rfl⟩
theorem Accepted.decDecode : Accepted.Statement .decDecode := fun _ => ⟨_, rfl⟩
theorem Accepted.ackBuild : Accepted.Statement .ackBuild := fun _ => ⟨_, rfl⟩
theorem Accepted.evqPush (e : QueuedEvent) : Accepted.Statement (.evqPush e) := fun _ => ⟨_, rfl⟩
theorem Accepted.evqTryPop : Accepted.Statement .evqTryPop := fun _ => ⟨_, rfl⟩
theorem Accepted.presRecHb (id : DevId) (now : TS) : Accepted.Statement (.presRecHb id now) := fun _ => ⟨_, rfl⟩
theorem Accepted.presQuery (id : DevId) : Accepted.Statement (.presQuery id) := fun _ => ⟨_, rfl⟩
theorem Accepted.rxFrame : Accepted.Statement .rxFrame := fun _ => ⟨_, rfl⟩
theorem Accepted.wkStep (a : SinkAnswer) : Accepted.Statement (.wkStep a) := fun _ => ⟨_, rfl⟩
theorem Accepted.reset (c : Option Nat) : Accepted.Statement (.reset c) := fun _ => ⟨_, rfl⟩
theorem Accepted.rxClassAbsent : Accepted.Statement .rxClassAbsent := fun _ => ⟨_, rfl⟩
theorem Accepted.rxClassHeartbeat (p : List Byte) : Accepted.Statement (.rxClassHeartbeat p) := fun _ => ⟨_, rfl⟩
theorem Accepted.rxClassEvent (p : List Byte) : Accepted.Statement (.rxClassEvent p) := fun _ => ⟨_, rfl⟩
theorem Accepted.rxClassBadLen (n : Half) : Accepted.Statement (.rxClassBadLen n) := by
  intro _
  show ∃ j, decodeClass true (lenWord n) .idle = .ok j
  simp only [decodeClass, lenWord, if_true]
  split
  · exact ⟨_, rfl⟩
  · split <;> exact ⟨_, rfl⟩
theorem Accepted.hb18 (f : List Byte) : Accepted.Statement (.hb18 f) := by
  intro h
  exact ⟨.hb18 f, by simp [Instr.wf] at h; simp [encode, decode, decodeFrame, h]⟩
theorem Accepted.ev30 (f : List Byte) : Accepted.Statement (.ev30 f) := by
  intro h
  exact ⟨.ev30 f, by simp [Instr.wf] at h; simp [encode, decode, decodeFrame, h, Config.lenHb, Config.lenEv]⟩
theorem Accepted.ackFlags18 (d : DevId) (i : Half) (c : Byte) : Accepted.Statement (.ackFlags18 d i c) := fun _ => ⟨_, rfl⟩
theorem Accepted.ackFlags08 (cmd : Byte) (d : DevId) (i : Half) (c : Byte) : Accepted.Statement (.ackFlags08 cmd d i c) := by
  intro h
  exact ⟨.ackFlags08 cmd d i c, by simp [Instr.wf] at h; simp [encode, decode, decodeAckSelector, h, Lanes.idle]⟩

end Sys2Proof.Laws
end

