-- ==== Sys2Proof/Laws/Turns.lean ====
section
/-! SUPPORT. What a turn of a sequencer can do, said once, and when it goes on. -/

namespace Sys2Proof.Machine

@[simp] theorem andThen_next {r : Result} {f : State → State} {u : State} :
    andThen r f = .next u ↔ ∃ t, r = .next t ∧ u = f t := by
  cases r <;> simp [andThen, eq_comm]

theorem rxRunning_iff {s : State} : s.rxRunning = [] ↔ s.rxStage = .waiting := by
  unfold State.rxRunning; split <;> simp [*]

theorem wkRunning_iff {s : State} : s.wkRunning = [] ↔ s.wkStage = .polling := by
  unfold State.wkRunning; split <;> simp [*]

/-- The only operation a sequencer of RX is inside of is RX.FRAME. -/
theorem mem_rxRunning {s : State} {o : Op} (h : o ∈ s.rxRunning) : o = .rxFrame := by
  unfold State.rxRunning at h; split at h <;> simp_all

/-- The only operation a sequencer of WK is inside of is WK.STEP. -/
theorem mem_wkRunning {s : State} {o : Op} (h : o ∈ s.wkRunning) : o = .wkStep := by
  unfold State.wkRunning at h; split at h <;> simp_all

/-- What a routing step of RX can do: push a QueuedEvent, record a heartbeat, or nothing; always as RX.FRAME's own
routing (R113, R114). -/
theorem execRoute_next {d : DecodeOutcome} {s t : State} (h : execRoute d s = .next t) :
    t = s.route d ∧ ∀ e, d = .ok (.event e) → eventValid e = true := by
  cases d with
  | error x => cases h; exact ⟨rfl, fun _ h => by cases h⟩
  | ok p =>
    cases p with
    | heartbeat c =>
      have h : exec (.presRecHb c.deviceId s.rxbuf.now) s = .next t := h
      exact ⟨effect_of_next h, fun _ h => by cases h⟩
    | event e =>
      have h : exec (.evqPush e) s = .next t := h
      have hc := (exec_next.mp h).2.1
      simp only [checks, List.mem_cons, forall_eq_or_imp, need_eq_none, Instr.wf] at hc
      exact ⟨effect_of_next h, fun _ he => by cases he; exact hc.1⟩

/-- What a DEC.DECODE or an ACK.BUILD that goes on says of RXBUF and the circumstances. -/
theorem rxReady_of_checks {s : State} (hs : Standing s) (h : ∀ c ∈ [rxRole s, rxStill s, rxFits s], c = none) :
    RxReady s ∧ RxbufReady s := by
  simp only [List.mem_cons, List.not_mem_nil, or_false, forall_eq_or_imp, forall_eq] at h
  exact ⟨⟨by simpa [rxRole] using h.1, hs⟩, rxbufReady_iff.mp h.2⟩

/-- Everything a turn of RX can do (R10, R113): go on waiting, decode, route, or acknowledge. -/
theorem rxTurn_cases {s t : State} (h : s.rxTurn = .next t) :
    (s.rxStage = .waiting ∧ s.rxPending = false ∧ t = s)
    ∨ (s.rxStage = .waiting ∧ s.rxPending = true ∧ RxReady s.asRx ∧ RxbufReady s.asRx
        ∧ t = (s.asRx.endDecode (decodeRx s.cfg s.rxbuf)).setRxStage (.decoded (decodeRx s.cfg s.rxbuf)))
    ∨ (∃ d, s.rxStage = .decoded d ∧ (∀ e, d = .ok (.event e) → eventValid e = true)
        ∧ t = (s.asRx.route d).setRxStage (.routed d (routeDiscards s d)))
    ∨ ∃ d n, s.rxStage = .routed d n ∧ RxReady s.asRx ∧ RxbufReady s.asRx
        ∧ t = ((s.asRx.endAck (headerOf s.rxbuf)).endFrame d n).setRxStage .waiting := by
  unfold State.rxTurn at h
  split at h
  · rename_i hs
    split at h
    · rename_i hp
      obtain ⟨u, hu, rfl⟩ := andThen_next.mp h
      have hu : exec .decDecode s.asRx = .next u := hu
      obtain ⟨h1, h2, rfl⟩ := exec_next.mp hu
      obtain ⟨h3, h4⟩ := rxReady_of_checks h1 h2
      exact .inr (.inl ⟨hs, hp, h3, h4, rfl⟩)
    · rename_i hp
      cases h
      exact .inl ⟨hs, by simpa using hp, rfl⟩
  · rename_i d hs
    obtain ⟨u, hu, rfl⟩ := andThen_next.mp h
    obtain ⟨rfl, hv⟩ := execRoute_next hu
    exact .inr (.inr (.inl ⟨d, hs, hv, rfl⟩))
  · rename_i d n hs
    obtain ⟨u, hu, rfl⟩ := andThen_next.mp h
    have hu : exec .ackBuild s.asRx = .next u := hu
    obtain ⟨h1, h2, rfl⟩ := exec_next.mp hu
    obtain ⟨h3, h4⟩ := rxReady_of_checks h1 h2
    exact .inr (.inr (.inr ⟨d, n, hs, h3, h4, rfl⟩))

/-- Everything a turn of WK can do (R10, R117): poll in vain, pop an event, or take the sink's answer for it. -/
theorem wkTurn_cases {s t : State} {a : SinkAnswer} (h : s.wkTurn a = .next t) :
    (s.wkStage = .polling ∧ Standing s.asWk ∧ t = s.asWk.popHead.endPoll s.evqItems)
    ∨ ∃ e, s.wkStage = .submitting e ∧ t = (s.asWk.endSubmit e a).setWkStage .polling := by
  unfold State.wkTurn at h
  split at h
  · rename_i hs
    obtain ⟨u, hu, rfl⟩ := andThen_next.mp h
    have hu : exec .evqTryPop s.asWk = .next u := hu
    obtain ⟨h1, -, rfl⟩ := exec_next.mp hu
    exact .inl ⟨hs, h1, rfl⟩
  · rename_i e hs
    cases h
    exact .inr ⟨e, hs, rfl⟩

/-! ## When a turn goes on -/

theorem rxTurn_start {s : State} (hs : s.rxStage = .waiting) (hp : s.rxPending = true) (h : RxReady s.asRx)
    (hr : RxbufReady s.asRx) :
    s.rxTurn = .next ((s.asRx.endDecode (decodeRx s.cfg s.rxbuf)).setRxStage (.decoded (decodeRx s.cfg s.rxbuf))) := by
  have hd : execDecDecode s.asRx = .next (s.asRx.endDecode (decodeRx s.cfg s.rxbuf)) := by
    rw [endDecode_eq]; exact exec_decDecode h hr
  simp [State.rxTurn, hs, hp, andThen, hd]

theorem rxTurn_route {s : State} {d : DecodeOutcome} (hs : s.rxStage = .decoded d) (h : Standing s.asRx)
    (hv : ∀ e, d = .ok (.event e) → eventValid e = true) :
    s.rxTurn = .next ((s.asRx.route d).setRxStage (.routed d (routeDiscards s d))) := by
  have hal : ∀ ops, Op.wkStep ∉ ops → Alone s.asRx ops := fun ops ho o hm hi => ho (mem_wkRunning hi ▸ hm)
  have hd : execRoute d s.asRx = .next (s.asRx.route d) := by
    cases d with
    | error x => rfl
    | ok p =>
      cases p with
      | heartbeat c => exact exec_presRecHb ⟨⟨rfl, h⟩, hal _ (by decide)⟩
      | event e => exact exec_evqPush (hv e rfl) ⟨⟨rfl, h⟩, hal _ (by decide)⟩
  simp [State.rxTurn, hs, andThen, hd]

theorem rxTurn_end {s : State} {d : DecodeOutcome} {n : Nat} (hs : s.rxStage = .routed d n) (h : RxReady s.asRx)
    (hr : RxbufReady s.asRx) :
    s.rxTurn = .next (((s.asRx.endAck (headerOf s.rxbuf)).endFrame d n).setRxStage .waiting) := by
  have hd : execAckBuild s.asRx = .next (s.asRx.endAck (headerOf s.rxbuf)) := exec_ackBuild h hr
  simp [State.rxTurn, hs, andThen, hd]

/-- Both sequencers stand under the same configuration, and neither is a RESET. -/
theorem standing_turns {s t : State} (h : s.cfg = t.cfg) : Standing s.asRx ↔ Standing t.asWk := by
  have h1 : Op.reset ∉ s.wkRunning := fun hm => by simpa using mem_wkRunning hm
  have h2 : Op.reset ∉ t.rxRunning := fun hm => by simpa using mem_rxRunning hm
  simp [Standing, h, h1, h2]

theorem wkTurn_poll {s : State} (hs : s.wkStage = .polling) (h : Standing s.asWk) (a : SinkAnswer) :
    s.wkTurn a = .next (s.asWk.popHead.endPoll s.evqItems) := by
  have hd : execEvqTryPop s.asWk = .next s.asWk.popHead := exec_evqTryPop ⟨rfl, h, fun o hm hi => by
    have := mem_rxRunning hi; subst this; simp at hm⟩
  simp [State.wkTurn, hs, andThen, hd]

theorem wkTurn_answer {s : State} {e : QueuedEvent} (hs : s.wkStage = .submitting e) (a : SinkAnswer) :
    s.wkTurn a = .next ((s.asWk.endSubmit e a).setWkStage .polling) := by
  simp [State.wkTurn, hs]

end Sys2Proof.Machine
end

