-- ==== Sys2Proof/Tests/Slice0.lean ====
section
/-! SUPPORT. Tests: ill-formed terms are refused, words decode as the spec's encodings say, one-step vectors of
spec/95_test_vectors.md (named in each docstring), and a witness for the hypotheses of every statement. -/

namespace Sys2Proof.Tests

-- One theorem at a time: each of these closes by an evaluation in the kernel, and a thread for each is too many.
set_option Elab.async false

open Sys2Proof Sys2Proof.Machine Sys2Proof.Spec

/-! ## Frames and states -/

/-- `HB1`. -/
def hb1 : List Byte :=
  [0x21, 0x02, 0x01, 0x10, 0x12, 0x34, 0xAB, 0xCD, 0x00, 0x07, 0x02, 0x00, 0x00, 0x00, 0x00, 0x00, 0x31, 0x6D]

/-- `HB2`. -/
def hb2 : List Byte :=
  [0x21, 0x02, 0x01, 0x10, 0x00, 0x00, 0x00, 0x2A, 0xFF, 0xFE, 0x01, 0x05, 0xDE, 0xAD, 0xBE, 0xEF, 0xC7, 0xAD]

/-- `EV` with its command byte, the high byte of its event code, its zone bytes and its trailer given. -/
def evWith (cmd code zh zl : Byte) (t1 t2 : Byte) : List Byte :=
  [0x21, 0x02, 0x01, 0x10, 0x12, 0x34, 0xAB, 0xCD, 0x00, 0x08, 0x02, cmd, 0x56, 0x78, code, 0x30, 0x01, zh, zl]
    ++ List.replicate 9 0x00 ++ [t1, t2]

/-- `EV`. -/
def ev : List Byte := evWith 0x03 0x11 0x00 0x15 0x66 0x3F

/-- `E2`. -/
def e2 : List Byte :=
  [0x21, 0x02, 0x01, 0x10, 0x12, 0x34, 0xAB, 0xCD, 0x01, 0x02, 0x02, 0x03, 0x56, 0x78, 0x31, 0x30, 0x01, 0x00, 0x02]
    ++ List.replicate 9 0x00 ++ [0x7A, 0x0E]

/-- `S12`. -/
def s12 : List Byte := [0x00, 0x01, 0x02, 0x03, 0x04, 0x05, 0x06, 0x07, 0x08, 0x09, 0x0A, 0x0B]

/-- `S11`. -/
def s11 : List Byte := [0x00, 0x01, 0x02, 0x03, 0x04, 0x05, 0x06, 0x07, 0x08, 0x09, 0x0A]

/-- A QueuedEvent with this event code and zone. -/
def someEvent (code : Half) (zone : Nat) : QueuedEvent :=
  { common := ⟨0x1234ABCD#32, 0x02#8, 0x03#8, 0x663F#16, ev⟩, fields := ⟨0x5678#16, code, 0x01#8, zone⟩ }

/-- The decode of `EV` (V-DEC-03). -/
def evA : QueuedEvent := someEvent 0x1130#16 15
def evB : QueuedEvent := someEvent 0x3130#16 0
def evC : QueuedEvent := someEvent 0x6602#16 9999

/-- The state after reset with an agent as the issuer, nothing beside it. -/
def issued (a : Agent) : State := { State.reset with issue := ⟨a, [], true⟩ }

/-- The same for RX, with a datagram received at time 1. -/
def received (p : List Byte) : State := { issued .rx with rxbuf := ⟨true, p, ⟨[1]⟩⟩ }

/-- Whether an answer is a next state with a property. -/
def holds (o : Result) (p : State → Bool) : Bool :=
  match o with
  | .next t => p t
  | .fault _ => false
  | .refused _ => false

/-- The next state of an answer that is one. -/
def nextOf (o : Result) : State :=
  match o with
  | .next t => t
  | .fault _ => State.reset
  | .refused _ => State.reset

/-- Whether an answer is a refusal under this name. -/
def stops (o : Result) (r : Refusal) : Bool :=
  match o with
  | .next _ => false
  | .fault _ => false
  | .refused q => q = r

/-! ## WellFormed refuses the ill-formed -/

/-- R85, R89: a leading digit 2. -/
theorem test_wf_event_code : (Instr.evqPush (someEvent 0x2130#16 15)).wf = false := by decide +kernel
/-- R56, R89: a zone above 9999. -/
theorem test_wf_zone : (Instr.evqPush (someEvent 0x1130#16 10000)).wf = false := by decide +kernel
/-- R57, R89: a copy of 29 bytes. -/
theorem test_wf_raw :
    (Instr.evqPush { evA with common := { evA.common with raw := List.replicate 29 0 } }).wf = false := by decide +kernel
/-- The two lengths of R61 and their neighbours. -/
theorem test_wf_heartbeat : (Instr.rxClassHeartbeat (List.replicate 17 0)).wf = false
    ∧ (Instr.hb18 (List.replicate 19 0)).wf = false := by decide +kernel
theorem test_wf_event : (Instr.rxClassEvent (List.replicate 29 0)).wf = false
    ∧ (Instr.ev30 (List.replicate 31 0)).wf = false := by decide +kernel
theorem test_wf_badLen : (Instr.rxClassBadLen 18#16).wf = false ∧ (Instr.rxClassBadLen 30#16).wf = false := by
  decide +kernel
/-- R62: FLAGS_08 is no frame for the command byte 0. -/
theorem test_wf_flags : (Instr.ackFlags08 0#8 0#32 0#16 0#8).wf = false := by decide +kernel

/-! ## Words written out from the encodings -/

/-- R63: OPID 5, EVQ.PUSH, with its operand on the event lane. -/
theorem test_word_push :
    decode ⟨.operation, [0b00000101#8], { Lanes.idle with event := evB }⟩ = .ok (.evqPush evB) := by decide +kernel
/-- R63: the other eleven OPIDs, their operands on the lanes. -/
theorem test_word_operations :
    (let l := { Lanes.idle with byte := 0xAB#8, source := .rxbuf, offset := 3, length := 4, id := 0x2A#32, now := ⟨[7]⟩,
                                sink := .failure, capacity := some 2 }
     [0, 1, 2, 3, 4, 6, 7, 8, 9, 10, 11].map fun n => (decode ⟨.operation, [BitVec.ofNat 8 n], l⟩).toOption)
      = [some .crcInit, some (.crcByte 0xAB#8), some (.crcCompute .rxbuf 3 4), some .decDecode, some .ackBuild,
         some .evqTryPop, some (.presRecHb 0x2A#32 ⟨[7]⟩), some (.presQuery 0x2A#32), some .rxFrame,
         some (.wkStep .failure), some (.reset (some 2))] := by decide +kernel
/-- R63 names no OPID 12 to 15; a word of no byte or of two is none. -/
theorem test_word_unknown :
    decode ⟨.operation, [12#8], .idle⟩ = .error (.unknownOpid 12) ∧ decode ⟨.operation, [15#8], .idle⟩ = .error (.unknownOpid 15)
      ∧ decode ⟨.operation, [], .idle⟩ = .error (.wordLength .operation 0)
      ∧ decode ⟨.operation, [0#8, 0#8], .idle⟩ = .error (.wordLength .operation 2) := by decide +kernel
/-- R61: the length 0x0012, low byte first, is HEARTBEAT, 0x001E EVENT, 0x1200 and 0 BADLEN; absent is ABSENT. -/
theorem test_word_classes :
    decode ⟨.frameClass true, [0x12#8, 0x00#8], { Lanes.idle with payload := hb1 }⟩ = .ok (.rxClassHeartbeat hb1)
      ∧ decode ⟨.frameClass true, [0x1E#8, 0x00#8], { Lanes.idle with payload := ev }⟩ = .ok (.rxClassEvent ev)
      ∧ decode ⟨.frameClass true, [0x00#8, 0x12#8], .idle⟩ = .ok (.rxClassBadLen 0x1200#16)
      ∧ decode ⟨.frameClass true, [0x00#8, 0x00#8], .idle⟩ = .ok (.rxClassBadLen 0#16)
      ∧ decode ⟨.frameClass false, [0x12#8, 0x00#8], .idle⟩ = .ok .rxClassAbsent := by decide +kernel
/-- R50, R51: 18 and 30 bytes are frames, 17 are none. -/
theorem test_word_frames :
    decode ⟨.frame, hb1, .idle⟩ = .ok (.hb18 hb1) ∧ decode ⟨.frame, ev, .idle⟩ = .ok (.ev30 ev)
      ∧ decode ⟨.frame, hb1.tail, .idle⟩ = .error (.wordLength .frame 17) := by decide +kernel
/-- R62: `in[11] = 0x00` selects FLAGS_18, any other byte FLAGS_08. -/
theorem test_word_flags :
    decode ⟨.ackSelector, [0x00#8], { Lanes.idle with id := 1#32, frameId := 2#16, channel := 3#8 }⟩
        = .ok (.ackFlags18 1#32 2#16 3#8)
      ∧ decode ⟨.ackSelector, [0x80#8], { Lanes.idle with id := 1#32, frameId := 2#16, channel := 3#8 }⟩
        = .ok (.ackFlags08 0x80#8 1#32 2#16 3#8) := by decide +kernel
/-- The first instruction after reset that the probe word of OPID 9 stands for. -/
theorem test_fetch_rxFrame :
    holds (step (State.reset.withFetchWord 8 9)) (fun t => t.frameResult = some ⟨.error .emptyPayload, .payloadTooShort, 0⟩)
      = true := by decide +kernel

/-! ## Vectors of spec/95_test_vectors.md, one step each -/

/-- V-CRC-50, by a reader on a unit of its own. -/
theorem test_crcInit : holds (exec .crcInit (issued (.qr 3))) (fun t =>
    t.crcOf (.qr 3) = ⟨0xFFFF#16, true⟩ && t.crcOf .rx = ⟨0#16, false⟩) = true := by decide +kernel
/-- V-CRC-30 and V-CRC-27. -/
theorem test_crcByte :
    holds (exec (.crcByte 0x31#8) { issued .wk with crc := [(1, ⟨0xFFFF#16, true⟩)] })
        (fun t => t.crcOf .wk = ⟨0xC782#16, true⟩) = true
      ∧ holds (exec (.crcByte 0x56#8) { issued .wk with crc := [(1, ⟨0x1234#16, true⟩)] })
        (fun t => t.crcOf .wk = ⟨0x3C40#16, true⟩) = true := by decide +kernel
/-- V-CRC-07. -/
theorem test_crcCompute :
    holds (exec (.crcCompute (.given [0x31, 0x32, 0x33, 0x34, 0x35, 0x36, 0x37, 0x38, 0x39]) 0 9) (issued .wk))
      (fun t => t.crcOf .wk = ⟨0x29B1#16, true⟩) = true := by decide +kernel
/-- V-CRC-10, a range inside, and V-CRC-16, all of RXBUF. -/
theorem test_crcCompute_range :
    holds (exec (.crcCompute (.given [0xAA, 0x31, 0x32, 0x33, 0xBB]) 1 3) (issued .wk))
        (fun t => t.crcOf .wk = ⟨0x5BCE#16, true⟩) = true
      ∧ holds (exec (.crcCompute .rxbuf 0 18) (received hb1)) (fun t => t.crcOf .rx = ⟨0#16, true⟩) = true := by
  decide +kernel
/-- V-DEC-03. -/
theorem test_decDecode : holds (exec .decDecode (received ev)) (fun t => t.dec = some (.ok (.event evA))) = true := by
  decide +kernel
/-- V-DEC-10: the first zone byte is reported, before the event code. -/
theorem test_decDecode_order :
    holds (exec .decDecode (received (evWith 0x03 0x21 0xAB 0xCD 0x66 0x3F)))
      (fun t => t.dec = some (.error (.invalidBcd 0xAB#8))) = true := by decide +kernel
/-- V-ACK-01. -/
theorem test_ackBuild : holds (exec .ackBuild (received hb1)) (fun t => t.ack = some (.ok
    [0x21, 0x02, 0x01, 0x18, 0x12, 0x34, 0xAB, 0xCD, 0x00, 0x07, 0x02, 0x01, 0x99, 0x05, 0x00, 0x00, 0x4E, 0x7E]))
      = true := by decide +kernel
/-- V-ACK-05, the shortest payload. -/
theorem test_ackBuild_short : holds (exec .ackBuild (received s12)) (fun t => t.ack = some (.ok
    [0x21, 0x02, 0x01, 0x08, 0x04, 0x05, 0x06, 0x07, 0x08, 0x09, 0x0A, 0x01, 0x99, 0x05, 0x00, 0x00, 0x38, 0x4B]))
      = true := by decide +kernel
/-- V-FIFO-04. -/
theorem test_evqPush :
    holds (exec (.evqPush evC) { issued .rx with capacity := 2, evqItems := [evA, evB] })
      (fun t => t.evqItems = [evB, evC] && t.pushDiscards = some 1) = true := by decide +kernel
/-- V-FIFO-06. -/
theorem test_evqTryPop :
    holds (exec .evqTryPop { issued .wk with capacity := 2, evqItems := [evB, evC] })
      (fun t => t.evqItems = [evC] && t.pop = some (.event evB)) = true := by decide +kernel
/-- V-PRES-04: overwritten, still one entry. -/
theorem test_presRecHb :
    holds (exec (.presRecHb 0x1234ABCD#32 ⟨[2]⟩) { issued .rx with presMap := [(0x1234ABCD, ⟨⟨[1]⟩, true⟩)] })
      (fun t => t.presMap = [(0x1234ABCD, ⟨⟨[2]⟩, true⟩)]) = true := by decide +kernel
/-- V-PRES-06: two entries. -/
theorem test_presRecHb_second :
    holds (exec (.presRecHb 0x0000002A#32 ⟨[3]⟩) { issued .rx with presMap := [(0x1234ABCD, ⟨⟨[1]⟩, true⟩)] })
      (fun t => t.presMap = [(0x2A, ⟨⟨[3]⟩, true⟩), (0x1234ABCD, ⟨⟨[1]⟩, true⟩)]) = true := by decide +kernel
/-- V-PRES-02 and V-PRES-03. -/
theorem test_presQuery :
    holds (exec (.presQuery 0x1234ABCD#32) { issued (.qr 5) with presMap := [(0x1234ABCD, ⟨⟨[1]⟩, true⟩)] })
        (fun t => lookupKey t.qry 5 = some (.present 0x1234ABCD#32 ⟨⟨[1]⟩, true⟩)) = true
      ∧ holds (exec (.presQuery 0x2A#32) { issued (.qr 5) with presMap := [(0x1234ABCD, ⟨⟨[1]⟩, true⟩)] })
        (fun t => lookupKey t.qry 5 = some .absent) = true := by decide +kernel
/-- V-RX-10. -/
theorem test_rxFrame : holds (exec .rxFrame (received hb2)) (fun t =>
    t.presMap = [(0x2A, ⟨⟨[1]⟩, true⟩)] && t.evqItems = [] && t.sender = some
      [0x21, 0x02, 0x01, 0x08, 0x00, 0x00, 0x00, 0x2A, 0xFF, 0xFE, 0x01, 0x01, 0x99, 0x05, 0x00, 0x00, 0x49, 0x0A])
      = true := by decide +kernel
/-- V-RX-08. -/
theorem test_rxFrame_full :
    holds (exec .rxFrame { received e2 with capacity := 1, evqItems := [evA] }) (fun t =>
      (t.evqItems.map (·.fields.eventCode)) = [0x3130#16] && (t.frameResult.map (·.discards)) = some 1) = true := by
  decide +kernel
/-- V-WK-03. -/
theorem test_wkStep : holds (exec (.wkStep .failure) { issued .wk with evqItems := [evA] }) (fun t =>
    t.evqItems = [] && t.sinkFailure = some evA && t.pop = some (.event evA)) = true := by decide +kernel
/-- V-WK-01: the sink is not called. -/
theorem test_wkStep_empty : holds (exec (.wkStep .failure) (issued .wk)) (fun t =>
    t.sinkAnswer = none && t.sinkFailure = none && t.pop = some .empty) = true := by decide +kernel
/-- V-RST-01 and V-RST-03. -/
theorem test_reset :
    holds (exec (.reset (some 2)) { issued .host with evqItems := [evA, evB], presMap := [(1, ⟨⟨[1]⟩, true⟩)] })
        (fun t => t.evqItems = [] && t.presMap = [] && t.capacity = 2) = true
      ∧ stops (exec (.reset (some 0)) (issued .host)) .zeroCapacity = true := by decide +kernel
/-- V-DEC-20. -/
theorem test_rxClassAbsent : holds (exec .rxClassAbsent (issued .rx)) (fun t => t.dec = some (.error .emptyPayload))
      = true := by decide +kernel
/-- V-DEC-32. -/
theorem test_rxClassHeartbeat :
    holds (exec (.rxClassHeartbeat (List.replicate 18 0xFF)) (issued .rx)) (fun t => t.dec = some (.ok (.heartbeat
      ⟨0xFFFFFFFF#32, 0xFF#8, 0xFF#8, 0xFFFF#16, List.replicate 18 0xFF⟩))) = true := by decide +kernel
/-- V-DEC-30 and V-DEC-31. -/
theorem test_rxClassEvent :
    holds (exec (.rxClassEvent (List.replicate 30 0x00)) (issued .rx))
        (fun t => t.dec = some (.error (.invalidEventCode 0#16))) = true
      ∧ holds (exec (.rxClassEvent (List.replicate 30 0xFF)) (issued .rx))
        (fun t => t.dec = some (.error (.invalidBcd 0xFF#8))) = true := by decide +kernel
/-- V-DEC-29. -/
theorem test_rxClassBadLen : holds (exec (.rxClassBadLen 40#16) (issued .rx))
    (fun t => t.dec = some (.error (.invalidLength 40))) = true := by decide +kernel
/-- V-DEC-01. -/
theorem test_hb18 : holds (exec (.hb18 hb1) (issued .rx)) (fun t =>
    t.dec = some (.ok (.heartbeat ⟨0x1234ABCD#32, 0x02#8, 0x00#8, 0x316D#16, hb1⟩))) = true := by decide +kernel
/-- V-DEC-13: the zone 9999. -/
theorem test_ev30 :
    holds (exec (.ev30 (evWith 0x03 0x11 0x99 0x99 0x66 0x3F)) (issued .rx)) (fun t =>
      t.dec = some (.ok (.event { common := { evA.common with raw := evWith 0x03 0x11 0x99 0x99 0x66 0x3F },
                                  fields := { evA.fields with zone := 9999 } }))) = true := by decide +kernel
/-- V-ACK-08: `EV0`, byte 11 zero. -/
theorem test_ackFlags18 : holds (exec (.ackFlags18 0x1234ABCD#32 0x0008#16 0x02#8) (issued .rx)) (fun t =>
    t.ack = some (.ok
      [0x21, 0x02, 0x01, 0x18, 0x12, 0x34, 0xAB, 0xCD, 0x00, 0x08, 0x02, 0x01, 0x99, 0x05, 0x00, 0x00, 0xC4, 0x97]))
      = true := by decide +kernel
/-- V-ACK-02: `EV`, byte 11 `03`. -/
theorem test_ackFlags08 : holds (exec (.ackFlags08 0x03#8 0x1234ABCD#32 0x0008#16 0x02#8) (issued .rx)) (fun t =>
    t.ack = some (.ok
      [0x21, 0x02, 0x01, 0x08, 0x12, 0x34, 0xAB, 0xCD, 0x00, 0x08, 0x02, 0x01, 0x99, 0x05, 0x00, 0x00, 0xD2, 0x23]))
      = true := by decide +kernel
/-- The examples of R9, and V-DEC-04's strings. -/
theorem test_renderings : dec3 7 = ['0', '0', '7'] ∧ dec3 15 = ['0', '1', '5'] ∧ dec3 0 = ['0', '0', '0']
    ∧ dec3 999 = ['9', '9', '9'] ∧ dec3 1234 = ['1', '2', '3', '4'] ∧ accountString 0x9ABC#16 = ['9', 'A', 'B', 'C']
    ∧ deviceIdString 0x2A#32 = ['0', '0', '0', '0', '0', '0', '2', 'A'] ∧ partitionString 0xFF#8 = ['F', 'F'] := by
  decide +kernel

/-! ## The contract, and the sequencers step by step -/

/-- R137 item 6, U5: `MAXLEN` of 29 (R4: at least 30) lets no operation go on, a CRC.INIT no more than an ACK.BUILD. -/
theorem test_bad_configuration :
    (let s := { received hb1 with cfg := { Config.refCfg with maxLen := 29 } }
     stops (exec .ackBuild s) .badConfiguration && stops (exec .crcInit s) .badConfiguration) = true := by decide +kernel
/-- R141, U7: no operation goes on beside a RESET. -/
theorem test_reset_overlap :
    (stops (exec .rxFrame { received hb1 with issue := ⟨.rx, [.reset], true⟩ }) .resetOverlap
      && stops (exec (.wkStep .success) { issued .wk with issue := ⟨.wk, [.reset], true⟩ }) .resetOverlap
      && stops (exec (.presQuery 0#32) { issued (.qr 0) with issue := ⟨.qr 0, [.reset], true⟩ }) .resetOverlap)
      = true := by decide +kernel
/-- R36, R144: the situations of a CRC.COMPUTE on an absent RXBUF, and of two writers of PRES. -/
theorem test_noPayload_concurrentRecord :
    (stops (exec (.crcCompute .rxbuf 0 0) (issued .rx)) .noPayload
      && stops (exec (.presRecHb 0#32 ⟨[1]⟩) { issued .rx with issue := ⟨.rx, [.presRecHb], true⟩ }) .concurrentRecord)
      = true := by decide +kernel

/-- A state with inputs presented. -/
def facing (s : State) (xs : List Input) : State := { s with inbox := xs }

/-- R10: RX takes up a datagram only once one has been delivered. -/
theorem test_rxTurn_waits :
    holds (step (facing (received ev) [.rxTurn])) (fun t => t = received ev) = true := by decide +kernel
/-- R10, R113: the first turn on a delivered datagram decodes and neither queues nor acknowledges. -/
theorem test_rxTurn_decodes :
    holds (step (facing { received ev with rxPending := true } [.rxTurn])) (fun t =>
      t.rxStage = .decoded (.ok (.event evA)) && t.dec = some (.ok (.event evA)) && t.evqItems = [] && t.ack = none)
      = true := by decide +kernel
/-- R10, R113: after its push, and before its acknowledgement, an RX.FRAME leaves the event to a pop of WK. -/
theorem test_wkTurn_between_push_and_ack :
    holds (step (facing { received ev with rxStage := .routed (.ok (.event evA)) 0, evqItems := [evA] }
        [.wkTurn .success])) (fun t =>
      t.evqItems = [] && t.wkStage = .submitting evA && t.rxStage = .routed (.ok (.event evA)) 0 && t.ack = none)
      = true := by decide +kernel
/-- R117, V-WK-03: the sink's answer comes with a turn of its own; the event is gone either way. -/
theorem test_wkTurn_answer :
    holds (step (facing { issued .wk with wkStage := .submitting evA } [.wkTurn .failure])) (fun t =>
      t.wkStage = .polling && t.sinkAnswer = some .failure && t.sinkFailure = some evA && t.evqItems = [])
      = true := by decide +kernel
/-- R43, R47, R141: inside an RX.FRAME, RX issues nothing else, RXBUF is not written, and HOST does not reset. -/
theorem test_inside_rxFrame :
    (let s := { received ev with rxStage := .decoded (.ok (.event evA)) }
     stops (step (facing s [.request ⟨.rx, [], true⟩ (encode .ackBuild)])) .agentBusy
       && stops (step (facing s [.deliver ⟨true, hb1, ⟨[2]⟩⟩])) .rxbufChanged
       && stops (step (facing s [.request ⟨.host, [], true⟩ (encode (.reset none))])) .resetOverlap) = true := by
  decide +kernel

/-! ## Witnesses: states and operands that meet the hypotheses of the statements -/

/-- Every operation may go on in the reset configuration with nothing in progress. -/
theorem standing_of {s : State} (hc : s.cfg = Config.refCfg) (hi : s.issue.inProgress = []) : Standing s := by
  simp only [Standing, hc, hi]; decide

theorem standing_issued (a : Agent) : Standing (issued a) := standing_of rfl rfl

theorem ready_received (p : List Byte) : RxReady (received p) := ⟨rfl, standing_of rfl rfl⟩

theorem still_received (p : List Byte) (h : p.length ≤ 65535) : RxbufReady (received p) := ⟨rfl, fun _ => h⟩

theorem frame_received (p : List Byte) (h : p.length ≤ 65535) : FrameReady (received p) :=
  ⟨ready_received p, still_received p h, fun _ _ => List.not_mem_nil⟩

/-- RX alone, in the reset configuration: it may push and record. -/
theorem ready_rx {s : State} (hc : s.cfg = Config.refCfg) (hi : s.issue = ⟨.rx, [], true⟩) :
    PushReady s ∧ RecordReady s := by
  have hs : Standing s := standing_of hc (by rw [hi])
  exact ⟨⟨⟨by rw [hi], hs⟩, fun _ _ => by rw [hi]; exact List.not_mem_nil⟩,
    ⟨⟨by rw [hi], hs⟩, fun _ _ => by rw [hi]; exact List.not_mem_nil⟩⟩

/-- WK alone, in the reset configuration: it may pop. -/
theorem ready_wk {s : State} (hc : s.cfg = Config.refCfg) (hi : s.issue = ⟨.wk, [], true⟩) : PopReady s :=
  ⟨by rw [hi], standing_of hc (by rw [hi]), fun _ _ => by rw [hi]; exact List.not_mem_nil⟩

theorem test_witness_CrcInitLoadsInitialValue : Standing (issued (.qr 3)) := standing_issued _
theorem test_witness_CrcByteFoldsOneByte :
    let s := { issued .wk with crc := [(1, ⟨0#16, true⟩)] }
    Standing s ∧ (s.crcOf s.issue.agent).defined = true := ⟨standing_of rfl rfl, by decide⟩
/-- A range that ends at the last byte, and one that ends one past it; both sources. -/
theorem test_witness_CrcComputeOfARange :
    (Standing (received hb1) ∧ ByteSource.given hb1 = .given hb1 ∧ 17 + 1 ≤ hb1.length ∧ hb1.length < 17 + 2)
      ∧ (received hb1).rxbuf.data = hb1 ∧ (received hb1).rxbuf.present = true ∧ (received hb1).issue.agent = .rx
      ∧ RxbufReady (received hb1) ∧ 18 + 0 ≤ hb1.length ∧ hb1.length < 18 + 1 :=
  ⟨⟨standing_of rfl rfl, rfl, by decide, by decide⟩, rfl, rfl, rfl, still_received _ (by decide), by decide, by decide⟩
theorem test_witness_CrcOfAnEmptyRange : Standing (issued .wk) ∧ 5 ≤ ([0xAA, 0x31, 0x32, 0x33, 0xBB] : List Byte).length :=
  ⟨standing_issued _, by decide⟩
theorem test_witness_CrcComputeIsInitThenBytes :
    Standing (issued .wk) ∧ 3 + 2 ≤ ([0xAA, 0x31, 0x32, 0x33, 0xBB] : List Byte).length := ⟨standing_issued _, by decide⟩
/-- `HB1` is acknowledged. -/
theorem test_witness_CrcIncrementalAndResidueLaws : ∃ a, ackOutcome (received hb1).rxbuf = .ok a := ⟨_, rfl⟩
theorem test_witness_CrcDetectsOneChangedByte : (0x00#8 : Byte) ≠ 0x01#8 := by decide
theorem test_witness_DecodeOfAnAbsentPayload :
    RxReady (issued .rx) ∧ (issued .rx).issue.rxStable = true ∧ (issued .rx).rxbuf.present = false :=
  ⟨⟨rfl, standing_issued _⟩, rfl, rfl⟩
/-- The lengths 0, 18, 30 and 31. -/
theorem test_witness_DecodeClassifiesByLength :
    RxReady (received []) ∧ RxbufReady (received []) ∧ (received []).rxbuf.data.length ≠ 18
      ∧ (received []).rxbuf.data.length ≠ 30 ∧ (received []).rxbuf.present = true
      ∧ RxbufReady (received hb1) ∧ (received hb1).rxbuf.data.length = 18
      ∧ RxbufReady (received ev) ∧ (received ev).rxbuf.data.length = 30
      ∧ RxbufReady (received (List.replicate 31 0)) ∧ (received (List.replicate 31 0)).rxbuf.data.length ≠ 30 :=
  ⟨ready_received _, still_received _ (by decide), by decide, by decide, rfl, still_received _ (by decide), rfl,
    still_received _ (by decide), rfl, still_received _ (by decide), by decide⟩
/-- The length fields 17 and 65535, and a frame of each format. -/
theorem test_witness_ParserRowsRunTheParser :
    RxReady (issued .rx) ∧ (issued .rx).issue.rxStable = true ∧ (17#16 : Half).toNat ≠ 18
      ∧ (65535#16 : Half).toNat ≠ 30 ∧ (65535#16 : Half).toNat ≤ (issued .rx).cfg.maxLen ∧ hb1.length = 18
      ∧ ev.length = 30 := ⟨⟨rfl, standing_issued _⟩, rfl, by decide, by decide, by decide, rfl, rfl⟩
theorem test_witness_DecodeOfAHeartbeat : RxReady (received hb1) ∧ hb1.length = 18 ∧ RxbufReady (received hb1)
    ∧ (received hb1).rxbuf.present = true ∧ (received hb1).rxbuf.data = hb1 :=
  ⟨ready_received _, rfl, still_received _ (by decide), rfl, rfl⟩
/-- Zone 9999 with the leading digit 6. -/
theorem test_witness_DecodeOfAnEvent :
    let p := evWith 0x03 0x66 0x99 0x99 0x66 0x3F
    RxReady (received p) ∧ p.length = 30 ∧ IsBcd (byteVal p 17) ∧ IsBcd (byteVal p (17 + 1)) ∧ LeadOk (be16Val p 14)
      ∧ (received p).cfg.offZone = 17 ∧ (received p).cfg.offEventCode = 14 ∧ RxbufReady (received p) :=
  ⟨ready_received _, rfl, by unfold IsBcd; decide, by unfold IsBcd; decide, by unfold LeadOk; decide, rfl, rfl,
    still_received _ (by decide)⟩
/-- Each of the two bytes bad: `A0` first, and `9A` second after a good one. -/
theorem test_witness_DecodeOfABadZoneByte :
    let p := evWith 0x03 0x11 0xA0 0x15 0x66 0x3F
    let q := evWith 0x03 0x11 0x99 0x9A 0x66 0x3F
    RxReady (received p) ∧ p.length = 30 ∧ ¬ IsBcd (byteVal p 17)
      ∧ RxReady (received q) ∧ q.length = 30 ∧ IsBcd (byteVal q 17) ∧ ¬ IsBcd (byteVal q (17 + 1)) :=
  ⟨ready_received _, rfl, by unfold IsBcd; decide, ready_received _, rfl, by unfold IsBcd; decide,
    by unfold IsBcd; decide⟩
theorem test_witness_DecodeOfABadEventCode :
    let p := evWith 0x03 0x21 0x00 0x15 0x66 0x3F
    RxReady (received p) ∧ p.length = 30 ∧ IsBcd (byteVal p 17) ∧ IsBcd (byteVal p (17 + 1)) ∧ ¬ LeadOk (be16Val p 14) :=
  ⟨ready_received _, rfl, by unfold IsBcd; decide, by unfold IsBcd; decide, by unfold LeadOk; decide⟩
/-- Two states with the same datagram and different stores. -/
theorem test_witness_DecodeIsAFunctionOfItsOperand :
    RxReady (received ev) ∧ RxbufReady (received ev) ∧ RxReady { received ev with evqItems := [evA] }
      ∧ RxbufReady { received ev with evqItems := [evA] } ∧ (received ev).cfg = { received ev with evqItems := [evA] }.cfg
      ∧ (received ev).rxbuf.data = { received ev with evqItems := [evA] }.rxbuf.data :=
  ⟨ready_received _, still_received _ (by decide), ⟨rfl, standing_of rfl rfl⟩, ⟨rfl, fun _ => by decide⟩, rfl, rfl⟩
theorem test_witness_AcceptedPacketsAreWellFormed :
    (∃ t, exec (.ev30 ev) (issued .rx) = .next t ∧ t.dec = some (.ok (.event evA)) ∧ (issued .rx).dec = none)
      ∧ ∃ t c, exec (.hb18 hb1) (issued .rx) = .next t ∧ t.dec = some (.ok (.heartbeat c)) :=
  ⟨⟨_, rfl, by decide +kernel, rfl⟩, ⟨_, _, rfl, rfl⟩⟩
/-- Trailers `66 3F` and `99 3F` (V-DEC-17); the heartbeats likewise. -/
theorem test_witness_TrailerIsCapturedAndNeverChecked :
    (RxReady (received ev) ∧ ev.length = 30 ∧ (evWith 0x03 0x11 0x00 0x15 0x99 0x3F).length = 30
      ∧ ∀ k < 28, ev[k]? = (evWith 0x03 0x11 0x00 0x15 0x99 0x3F)[k]?)
    ∧ (List.replicate 18 0#8).length = 18 ∧ ∀ k < 16, (List.replicate 18 0#8)[k]? = (List.replicate 16 0#8 ++ [1#8, 2#8])[k]? :=
  ⟨⟨ready_received _, rfl, rfl, by decide⟩, rfl, by decide⟩
/-- Bytes 0 and 27 of an event frame changed, bytes 8 and 15 of a heartbeat. -/
theorem test_witness_UnclaimedBytesAreIgnored :
    (RxReady (received ev) ∧ ev.length = 30 ∧ ((ev.set 0 9).set 27 9).length = 30
      ∧ ∀ k ∈ eventOffsets (received ev).cfg, ev[k]? = ((ev.set 0 9).set 27 9)[k]?)
    ∧ hb1.length = 18 ∧ ((hb1.set 8 9).set 15 9).length = 18
      ∧ ∀ k ∈ heartbeatOffsets (received ev).cfg, hb1[k]? = ((hb1.set 8 9).set 15 9)[k]? :=
  ⟨⟨ready_received _, rfl, rfl, by decide⟩, rfl, rfl, by decide⟩
theorem test_witness_EventFrameDecodesToItsFields :
    RxReady (issued .rx) ∧ (List.replicate 30 0#8).length = 30 ∧ (eventOffsets (issued .rx).cfg).Nodup
      ∧ LeadOk evC.fields.eventCode.toNat ∧ evC.fields.zone ≤ 9999 :=
  ⟨⟨rfl, standing_issued _⟩, rfl, by decide, by unfold LeadOk; decide, by decide⟩
theorem test_witness_HeartbeatFrameDecodesToItsFields :
    RxReady (issued .rx) ∧ (List.replicate 18 0#8).length = 18 ∧ (heartbeatOffsets (issued .rx).cfg).Nodup :=
  ⟨⟨rfl, standing_issued _⟩, rfl, by decide⟩
theorem test_witness_BcdOfAByte : IsBcd (0x99#8 : Byte).toNat ∧ ¬ IsBcd (0x9A#8 : Byte).toNat
    ∧ ¬ IsBcd (0xA9#8 : Byte).toNat ∧ 99 < 100 := by unfold IsBcd; decide
theorem test_witness_RenderingsLoseNothing : 999 ≤ 999 ∧ 999 < 1000 ∧ 9999 ≤ 9999 := by decide
theorem test_witness_AckBuildMakesTheFrame : RxReady (received s12) ∧ RxbufReady (received s12)
    ∧ (received s12).rxbuf.present = true ∧ 12 ≤ (received s12).rxbuf.data.length :=
  ⟨ready_received _, still_received _ (by decide), rfl, by decide⟩
theorem test_witness_AckOfAShortPayload :
    (RxReady (received s11) ∧ RxbufReady (received s11) ∧ (received s11).rxbuf.data.length < 12)
      ∧ RxReady (issued .rx) ∧ RxbufReady (issued .rx) ∧ (issued .rx).rxbuf.present = false :=
  ⟨⟨ready_received _, still_received _ (by decide), by decide⟩, ⟨rfl, standing_issued _⟩, ⟨rfl, fun h => by cases h⟩, rfl⟩
/-- The bytes of `HB1` (command 0) and those of `EV` (command 3). -/
theorem test_witness_AckRowsSelectTheFlags :
    RxReady (issued .rx) ∧ (0x1234ABCD#32 : DevId).toNat = 16777216 * 0x12 + 65536 * 0x34 + 256 * 0xAB + 0xCD
      ∧ (0x0007#16 : Half).toNat = 256 * 0 + 7 ∧ hb1.getD 11 0 = 0x00#8 ∧ (0x0008#16 : Half).toNat = 256 * 0 + 8
      ∧ ev.getD 11 0 ≠ 0x00#8 := ⟨⟨rfl, standing_issued _⟩, by decide, by decide, by decide, by decide, by decide⟩
/-- `S12`, and twenty bytes that agree with it at the offsets 4 to 11 only. -/
theorem test_witness_AckDependsOnEightBytes :
    let q := [9, 9, 9, 9, 0x04, 0x05, 0x06, 0x07, 0x08, 0x09, 0x0A, 0x0B, 9, 9, 9, 9, 9, 9, 9, 9]
    RxReady (received s12) ∧ RxReady (received q) ∧ RxbufReady (received s12) ∧ RxbufReady (received q)
      ∧ 12 ≤ (received s12).rxbuf.data.length
      ∧ 12 ≤ (received q).rxbuf.data.length
      ∧ ∀ k < 8, (received s12).rxbuf.data[k + 4]? = (received q).rxbuf.data[k + 4]? :=
  ⟨ready_received _, ready_received _, still_received _ (by decide), still_received _ (by decide), by decide, by decide, by decide⟩

/-- RX's state with `n` copies of an event queued and a capacity of 2. -/
def queued (n : Nat) : State := { issued .rx with capacity := 2, evqItems := List.replicate n evA }

theorem push_queued (n : Nat) : PushReady (queued n) := (ready_rx rfl rfl).1

/-- Below the capacity and at it. -/
theorem test_witness_PushAppendsAndDiscardsTheOldest :
    eventValid evC = true ∧ PushReady (queued 1) ∧ PushReady (queued 2) := ⟨by decide, push_queued _, push_queued _⟩
theorem test_witness_AtMostOneDiscardPerPush :
    eventValid evC = true ∧ 1 ≤ (queued 1).capacity ∧ (queued 1).evqItems.length < (queued 1).capacity
      ∧ (queued 2).evqItems.length = (queued 2).capacity ∧ PushReady (queued 1) ∧ PushReady (queued 2) :=
  ⟨by decide, by decide, by decide, by decide, push_queued _, push_queued _⟩
theorem test_witness_TryPopTakesTheHead :
    let s := { issued .wk with evqItems := [evB, evC] }
    PopReady (issued .wk) ∧ (issued .wk).evqItems = [] ∧ PopReady s ∧ s.evqItems = evB :: [evC] :=
  ⟨ready_wk rfl rfl, rfl, ready_wk rfl rfl, rfl⟩
/-- Three pushes into a capacity of 2, and the capacity of 1. -/
theorem test_witness_CapacityPlusKPushes :
    (∀ e ∈ [evA, evB, evC], eventValid e = true) ∧ PushReady (queued 0) ∧ 1 ≤ (queued 0).capacity
      ∧ (queued 0).evqItems = [] ∧ 1 ≤ { queued 0 with capacity := 1 }.capacity :=
  ⟨by decide, push_queued _, by decide, rfl, by decide⟩
/-- A push into a full FIFO by a transaction of RX, then a poll by WK's own turn. -/
theorem test_witness_EveryRunKeepsFifoOrder :
    ∃ t, Run { queued 2 with capacity := 2, evqItems := [evA, evB] } [evC] [evB] 1 t := by
  let s := { queued 2 with capacity := 2, evqItems := [evA, evB] }
  let x := Input.request ⟨.rx, [], true⟩ (encode (.evqPush evC))
  let t := nextOf (step (facing s [x]))
  let u := nextOf (step (facing t [.wkTurn .success]))
  have h : Run s (pushedByInput x s ++ (pushedByInput (.wkTurn .success) t ++ []))
      (poppedByInput x s t ++ (poppedByInput (.wkTurn .success) t u ++ []))
      (discardsByInput x s t + (discardsByInput (.wkTurn .success) t u + 0)) u :=
    .input x rfl rfl (.input (.wkTurn .success) rfl rfl (.stop u))
  exact ⟨u, h⟩
/-- An empty FIFO, and a full one of capacity 2. -/
theorem test_witness_PushAndPopInEitherOrder :
    eventValid evC = true ∧ 1 ≤ (queued 0).capacity ∧ (queued 0).evqItems = [] ∧ (queued 2).evqItems = evA :: [evA]
      ∧ (queued 2).evqItems.length = (queued 2).capacity
      ∧ PushReady { queued 2 with issue := ⟨.rx, [], true⟩ } ∧ PopReady { queued 2 with issue := ⟨.wk, [.evqPush], true⟩ } :=
  ⟨by decide, by decide, rfl, rfl, by decide, push_queued 2, rfl, ⟨rfl, rfl, rfl, by decide⟩, by unfold Alone; decide⟩
theorem test_witness_HeartbeatIsRecorded :
    RecordReady (issued .rx) ∧ (0#32 : DevId) ≠ 0xFFFFFFFF#32 := ⟨(ready_rx rfl rfl).2, by decide⟩
theorem test_witness_QueryAnswersTheEntry :
    (issued (.qr 0)).issue.agent = .qr 0 ∧ Standing (issued (.qr 0)) ∧ lookupKey (issued (.qr 0)).presMap 0 = none
      ∧ lookupKey { issued (.qr 0) with presMap := [(0, ⟨⟨[1]⟩, true⟩)] }.presMap 0 = some ⟨⟨[1]⟩, true⟩ :=
  ⟨rfl, standing_issued _, rfl, rfl⟩
/-- The same identifier recorded again, and another. -/
theorem test_witness_PresenceNeverExpires :
    let s := { issued .rx with presMap := [(0x2A, ⟨⟨[1]⟩, true⟩)] }
    (∃ t, exec (.presRecHb 0x2A#32 ⟨[2]⟩) s = .next t) ∧ (∃ t, exec (.presRecHb 0#32 ⟨[2]⟩) s = .next t)
      ∧ lookupKey s.presMap (0x2A#32 : DevId).toNat = some ⟨⟨[1]⟩, true⟩ :=
  ⟨⟨_, rfl⟩, ⟨_, rfl⟩, by decide⟩
/-- The datagrams of every clause of the statements about RX.FRAME: absent, 11, 12, 18 and 30 bytes (accepted, and
each error). -/
theorem test_witness_RxFrameIsDecodeRouteAcknowledge : FrameReady (received ev) ∧ FrameReady (received hb1)
    ∧ FrameReady (received s12) :=
  ⟨frame_received _ (by decide), frame_received _ (by decide), frame_received _ (by decide)⟩
theorem test_witness_RxFrameRoutesByKind :
    (FrameReady (received hb1) ∧ ∃ c, decodeRx (received hb1).cfg (received hb1).rxbuf = .ok (.heartbeat c))
      ∧ (FrameReady (received ev) ∧ ∃ e, decodeRx (received ev).cfg (received ev).rxbuf = .ok (.event e))
      ∧ FrameReady (received s12) ∧ ∃ x, decodeRx (received s12).cfg (received s12).rxbuf = .error x :=
  ⟨⟨frame_received _ (by decide), _, rfl⟩, ⟨frame_received _ (by decide), _, rfl⟩, frame_received _ (by decide), _, rfl⟩
theorem test_witness_EveryLongPayloadIsAcknowledged :
    (FrameReady (received s12) ∧ (received s12).rxbuf.present = true ∧ 12 ≤ (received s12).rxbuf.data.length)
      ∧ FrameReady (received s11) ∧ ¬ ((received s11).rxbuf.present = true ∧ 12 ≤ (received s11).rxbuf.data.length) :=
  ⟨⟨frame_received _ (by decide), rfl, by decide⟩, frame_received _ (by decide), by decide⟩
theorem test_witness_RxFrameOutcomePairs :
    (FrameReady (issued .rx) ∧ (issued .rx).rxbuf.present = false)
      ∧ (FrameReady (received s11) ∧ (received s11).rxbuf.data.length < 12)
      ∧ (FrameReady (received s12) ∧ 12 ≤ (received s12).rxbuf.data.length ∧ (received s12).rxbuf.data.length ≠ 18
          ∧ (received s12).rxbuf.data.length ≠ 30)
      ∧ (FrameReady (received hb1) ∧ (received hb1).rxbuf.data.length = 18)
      ∧ FrameReady (received ev) ∧ (received ev).rxbuf.data.length = 30 :=
  ⟨⟨⟨⟨rfl, standing_issued _⟩, ⟨rfl, fun h => by cases h⟩, fun _ _ => List.not_mem_nil⟩, rfl⟩,
    ⟨frame_received _ (by decide), by decide⟩,
    ⟨frame_received _ (by decide), by decide, by decide, by decide⟩, ⟨frame_received _ (by decide), rfl⟩,
    frame_received _ (by decide), rfl⟩
theorem test_witness_WkStepSubmitsTheHead :
    let s := { issued .wk with evqItems := [evA] }
    PopReady (issued .wk) ∧ (issued .wk).evqItems = [] ∧ PopReady s ∧ s.evqItems = evA :: [] :=
  ⟨ready_wk rfl rfl, rfl, ready_wk rfl rfl, rfl⟩
theorem test_witness_WorkerDrainsTheQueue :
    PopReady { issued .wk with evqItems := [evA, evB] }
      ∧ { issued .wk with evqItems := [evA, evB] }.evqItems.length ≤ [SinkAnswer.failure, .success].length :=
  ⟨ready_wk rfl rfl, by decide⟩
/-- The least capacity, and none given. -/
theorem test_witness_ResetEmptiesTheStores :
    ResetReady (some 1) (issued .host) ∧ ResetReady none (issued .host) :=
  ⟨⟨rfl, standing_issued _, rfl, by intro n h; cases h; decide⟩, rfl, standing_issued _, rfl, by intro n h; cases h⟩
/-- The issues of the first pop and of the first query. -/
theorem test_witness_NothingIsLeftAfterReset :
    ResetReady (some 1) (issued .host) ∧ PopReady { issued .host with issue := ⟨.wk, [], true⟩ }
      ∧ (issued (.qr 4)).issue.agent = .qr 4 ∧ Standing { issued .host with issue := ⟨.qr 4, [], true⟩ } :=
  ⟨⟨rfl, standing_issued _, rfl, by intro n h; cases h; decide⟩, ready_wk rfl rfl, rfl, standing_of rfl rfl⟩
/-- A wrong agent for each role. -/
theorem test_witness_OnlyTheAgentOfAPortUsesIt :
    ¬ MayIssue .decDecode (issued .wk).issue.agent ∧ ¬ MayIssue .evqTryPop (issued .rx).issue.agent
      ∧ ¬ MayIssue (.presQuery 0#32) (issued .rx).issue.agent ∧ ¬ MayIssue (.reset none) (issued .rx).issue.agent
      ∧ ¬ MayIssue (.crcCompute .rxbuf 0 0) (issued .wk).issue.agent :=
  ⟨by simp [MayIssue, issued], by simp [MayIssue, issued], by simp [MayIssue, issued], by simp [MayIssue, issued],
    by simp [MayIssue, issued]⟩
/-- One state for each situation of R137: the least range that leaves the bytes; each overlap; a moving, an absent and
a long RXBUF. -/
theorem test_witness_ContractViolationsAreRefused :
    (Standing (issued .wk) ∧ ([0xAA, 0x31, 0x32, 0x33, 0xBB] : List Byte).length < 4 + 2)
      ∧ (∀ o ∈ [Op.evqPush, .rxFrame, .presRecHb],
          RxReady { received ev with issue := ⟨.rx, [o], true⟩ } ∧ RxbufReady { received ev with issue := ⟨.rx, [o], true⟩ })
      ∧ Alone { received ev with issue := ⟨.rx, [.presRecHb], true⟩ } [.evqPush, .rxFrame]
      ∧ (∀ o ∈ [Op.evqTryPop, .wkStep], Standing { issued .wk with issue := ⟨.wk, [o], true⟩ })
      ∧ (Standing (issued .wk) ∧ (issued .wk).issue.agent ≠ .rx)
      ∧ RxReady { received ev with issue := ⟨.rx, [], false⟩ }
      ∧ (RxReady (issued .rx) ∧ (issued .rx).issue.rxStable = true ∧ (issued .rx).rxbuf.present = false)
      ∧ (Standing { issued .host with issue := ⟨.host, [.presQuery], true⟩ }
          ∧ (⟨.host, [.presQuery], true⟩ : Issue).inProgress ≠ [])
      ∧ (RxReady { received (List.replicate 31 0) with cfg := { Config.refCfg with maxLen := 30 } }
          ∧ 30 < (received (List.replicate 31 0)).rxbuf.data.length)
      ∧ Standing (issued .host) := by
  refine ⟨⟨standing_issued _, by decide⟩, ?_, by unfold Alone; decide, ?_, ⟨standing_issued _, by decide⟩,
    ⟨rfl, standing_of rfl rfl⟩, ⟨⟨rfl, standing_issued _⟩, rfl, rfl⟩, ⟨⟨rfl, rfl, rfl, by decide⟩, by decide⟩,
    ⟨⟨rfl, rfl, rfl, rfl, by decide⟩, by decide⟩, standing_issued _⟩
  · intro o ho
    refine ⟨⟨rfl, rfl, rfl, rfl, ?_⟩, rfl, fun _ => (by decide : ev.length ≤ 65535)⟩
    revert o; decide
  · intro o ho
    refine ⟨rfl, rfl, rfl, ?_⟩
    revert o; decide
/-- The least and the greatest configuration value outside each constraint, the other two layouts, a RESET in progress. -/
theorem test_witness_NoOperationGoesOnOutsideTheConfiguration :
    cfgValid { Config.refCfg with offTech := 16 } = false ∧ cfgValid { Config.refCfg with offZone := 27 } = false
      ∧ cfgValid { Config.refCfg with maxLen := 29 } = false ∧ cfgValid { Config.refCfg with maxLen := 30 } = true
      ∧ cfgValid { Config.refCfg with fieldLayout := .bcdSwapped } = true
      ∧ cfgValid { Config.refCfg with crcCheck := .enforcing } = true
      ∧ Op.reset ∈ (⟨.rx, [.reset], true⟩ : Issue).inProgress := by decide
theorem test_witness_CrcByteBeforeInitIsRefused :
    Standing State.reset ∧ (State.reset.crcOf State.reset.issue.agent).defined = false :=
  ⟨standing_of rfl rfl, by decide⟩
/-- A datagram taken up, and none left. -/
theorem test_witness_RxTurnsAreOneRxFramePerDatagram :
    let s := facing { received ev with rxPending := true } [.rxTurn, .rxTurn, .rxTurn]
    let s' := facing (received ev) [.rxTurn]
    (s.rxStage = .waiting ∧ s.rxPending = true ∧ FrameReady s.asRx ∧ s.inbox = .rxTurn :: .rxTurn :: .rxTurn :: [])
      ∧ s'.rxStage = .waiting ∧ s'.rxPending = false ∧ s'.inbox = .rxTurn :: [] :=
  ⟨⟨rfl, rfl, ⟨⟨rfl, standing_of rfl rfl⟩, ⟨rfl, fun _ => by decide⟩, fun _ _ => List.not_mem_nil⟩, rfl⟩, rfl, rfl, rfl⟩
/-- An empty FIFO, and one of two events. -/
theorem test_witness_WkTurnsAreWkStep :
    let s := facing (issued .wk) [.wkTurn .success]
    let s' := facing { issued .wk with evqItems := [evA, evB] } [.wkTurn .success, .wkTurn .failure]
    (s.wkStage = .polling ∧ PopReady s.asWk ∧ s.evqItems = [] ∧ s.inbox = .wkTurn .success :: [])
      ∧ s'.wkStage = .polling ∧ PopReady s'.asWk ∧ s'.evqItems = evA :: [evB]
      ∧ s'.inbox = .wkTurn .success :: .wkTurn .failure :: [] :=
  ⟨⟨rfl, ready_wk rfl rfl, rfl, rfl⟩, rfl, ready_wk rfl rfl, rfl, rfl⟩
/-- RX about to acknowledge, WK about to pop. -/
theorem test_witness_RxFrameIsAtomicAtItsRouting :
    let s := facing { received ev with rxStage := .routed (.ok (.event evA)) 0, evqItems := [evA] }
      [.rxTurn, .wkTurn .success]
    (∀ d, s.rxStage ≠ .decoded d) ∧ ∃ t u, step s = .next t ∧ step t = .next u :=
  ⟨fun d h => by simp [facing] at h, _, _, rfl, rfl⟩
/-- A state with a queued event inside an RX.FRAME, and a turn of WK. -/
theorem test_witness_EveryStepKeepsTheInvariants :
    let s := facing { received ev with evqItems := [evA], rxStage := .routed (.ok (.event evA)) 0 } [.wkTurn .success]
    s.Inv ∧ ∃ t, step s = .next t ∧ t.evqItems = [] :=
  ⟨⟨by decide, by decide, by decide, rfl, by decide, rfl, rfl, by decide, (fun _ h => by cases h),
    (fun _ h => by cases h), (fun _ h => by cases h),
    (by decide +kernel : DecodeOutcome.ok (.event evA) = decodeRx Config.refCfg (received ev).rxbuf),
    (fun _ h => by cases h)⟩,
    _, rfl, rfl⟩
theorem test_witness_AtMostOneStoreChanges :
    (∃ t, exec .ackBuild (received hb1) = .next t) ∧ ∃ t, exec .rxFrame (received hb1) = .next t :=
  ⟨⟨_, rfl⟩, ⟨_, rfl⟩⟩
theorem test_witness_ConfigurationAndOperandsAreFixed :
    (∃ t, exec .rxFrame (received ev) = .next t) ∧ isReset .rxFrame = false := ⟨⟨_, rfl⟩, rfl⟩
/-- Two states with different earlier outcomes. -/
theorem test_witness_NoEarlierOutcomeMatters :
    let s := received ev
    let s' := { received ev with dec := some (.error .emptyPayload), pop := some .empty }
    SameOperands s s' ∧ s ≠ s' ∧ ∃ t, exec .rxFrame s = .next t :=
  ⟨⟨rfl, rfl, rfl, rfl, rfl, rfl, rfl⟩, by decide +kernel, _, rfl⟩
/-- A word of each kind; agents inside their sequences and outside. -/
theorem test_witness_StepRunsTheDecodedInstruction :
    let s := { State.reset with rxStage := .decoded (.error .emptyPayload), wkStage := .submitting evA }
    State.reset.inbox = [] ∧ State.reset.rxStage = .waiting ∧ State.reset.busy .rx = false ∧ State.reset.busy .wk = false
      ∧ s.rxStage ≠ .waiting ∧ s.wkStage ≠ .polling
      ∧ decode ⟨.operation, [9#8], .idle⟩ = .ok .rxFrame
      ∧ decode ⟨.operation, [12#8], .idle⟩ = .error (.unknownOpid 12) :=
  ⟨rfl, rfl, rfl, rfl, by simp, by simp, rfl, rfl⟩
/-- A renaming that moves every token but the empty one, and one that identifies them all. -/
theorem test_witness_TimestampsAreOnlyStoredAndReturned :
    let f : TS → TS := fun t => ⟨t.token ++ t.token⟩
    f State.reset.rxbuf.now = State.reset.rxbuf.now ∧ f ⟨[1]⟩ ≠ ⟨[1]⟩ ∧ isReset (.presRecHb 0#32 ⟨[1]⟩) = false
      ∧ (fun _ => ⟨[]⟩ : TS → TS) State.reset.rxbuf.now = State.reset.rxbuf.now := by decide
theorem test_witness_DecodeOfEncodeIsTheInstruction :
    (Instr.evqPush evC).wf = true ∧ (Instr.rxClassBadLen 65535#16).wf = true ∧ (Instr.hb18 hb1).wf = true
      ∧ (Instr.ev30 ev).wf = true ∧ (Instr.ackFlags08 0x01#8 0#32 0#16 0#8).wf = true := by decide +kernel

end Sys2Proof.Tests
end

section
/-! PROOFS. The encodings of spec/30_encoding.md: BCD bytes (R55) and the numeric codes of the outcomes (R60). -/

namespace Sys2Proof.Proofs

open Sys2Proof Sys2Proof.Machine Sys2Proof.Spec

/-! ## BCD bytes -/

theorem bcd_of_isBcd {b : Byte} (h : IsBcd b.toNat) : bcd b = some (bcdVal b.toNat) := by
  unfold IsBcd at h
  simp [bcd, bcdVal, hiNibble_toNat, loNibble_toNat, h]

theorem bcd_of_not_isBcd {b : Byte} (h : ¬ IsBcd b.toNat) : bcd b = none := by
  unfold IsBcd at h
  simpa [bcd, hiNibble_toNat, loNibble_toNat] using h

theorem bcd_eq_some_iff {b : Byte} {n : Nat} : bcd b = some n ↔ IsBcd b.toNat ∧ bcdVal b.toNat = n := by
  by_cases h : IsBcd b.toNat
  · simp [bcd_of_isBcd h, h]
  · simp [bcd_of_not_isBcd h, h]

/-- A BCD byte is determined by its worth: both nibbles are decimal digits. -/
theorem bcdVal_injOn {a b : Nat} (ha : IsBcd a) (hb : IsBcd b) (h : bcdVal a = bcdVal b) : a = b := by
  unfold IsBcd at ha hb
  unfold bcdVal at h
  omega

theorem bcd_injective {b b' : Byte} {n : Nat} (h : bcd b = some n) (h' : bcd b' = some n) : b = b' := by
  obtain ⟨hb, hn⟩ := bcd_eq_some_iff.mp h
  obtain ⟨hb', hn'⟩ := bcd_eq_some_iff.mp h'
  exact BitVec.eq_of_toNat_eq (bcdVal_injOn hb hb' (hn.trans hn'.symm))

theorem bcdByte_toNat {n : Nat} (h : n < 100) : (bcdByte n).toNat = 16 * (n / 10) + n % 10 := by
  rw [bcdByte, BitVec.toNat_ofNat, Nat.mod_eq_of_lt (by omega)]

theorem bcd_bcdByte {n : Nat} (h : n < 100) : bcd (bcdByte n) = some n := by
  rw [bcd_eq_some_iff, bcdByte_toNat h, IsBcd, bcdVal]
  omega

/-- Settles O21: the byte worth `n` is the encoder's `bcdByte n`, and no two bytes are worth the same. -/
theorem bcdOfAByte : Obligations.BcdOfAByte :=
  ⟨fun _ => bcd_of_isBcd, fun _ => bcd_of_not_isBcd,
    fun n hn => ⟨bcdByte n, bcd_bcdByte hn, fun _ h => bcd_injective h (bcd_bcdByte hn)⟩⟩

/-! ## The codes of the outcomes -/

theorem decInfo_invalidLength_toNat {n : Nat} (h : n < 65536) :
    (decInfo (.error (.invalidLength n))).map BitVec.toNat = some n := by
  simp [decInfo, h, Nat.mod_eq_of_lt]

theorem decInfo_invalidBcd_toNat (b : Byte) :
    (decInfo (.error (.invalidBcd b))).map BitVec.toNat = some b.toNat := by
  have hb : b.toNat < 65536 := by omega
  simp [decInfo, Nat.mod_eq_of_lt hb]

/-- Settles O55: every code is its row of R60; only the two payloads that DEC.info resizes need an argument. -/
theorem statusCodesOfTheOutcomes : Obligations.StatusCodesOfTheOutcomes := by
  refine ⟨?ok, ?emptyPayload, ?invalidLength, ?invalidBcd, ?invalidEventCode, ?noPacket, ?ack, ?shortPayload,
    ?shortBuf, ?popEmpty, ?popNone, ?popEvent, ?qryAbsent, ?qryNone, ?qryPresent⟩
  case invalidLength => exact fun n hn => ⟨rfl, decInfo_invalidLength_toNat hn⟩
  case invalidBcd => exact fun b => ⟨rfl, decInfo_invalidBcd_toNat b⟩
  case ok => exact fun _ => ⟨rfl, rfl, rfl⟩
  case emptyPayload => exact ⟨rfl, rfl⟩
  case invalidEventCode | ack | popEvent => exact fun _ => ⟨rfl, rfl⟩
  case qryPresent => exact fun _ _ => ⟨rfl, rfl⟩
  case noPacket => exact fun _ => rfl
  all_goals rfl

end Sys2Proof.Proofs
end

section
/-! PROOFS. Unit CRC16 (spec/40_crc16.md): the rounds and the checksum on numbers (R70 to R72), and what CRC.INIT,
CRC.BYTE and CRC.COMPUTE answer and write (R29, R69, R71, R72, R74). -/

namespace Sys2Proof.Proofs

open Sys2Proof Sys2Proof.Machine Sys2Proof.Spec

/-! ## The checksum on numbers -/

/-- The bit that `crc_round` tests is the comparison of R70 on numbers. -/
theorem getLsbD_15_eq_decide (r : Half) : r.getLsbD 15 = decide (32768 ≤ r.toNat) := by
  rw [← BitVec.msb_eq_getLsbD_last r, BitVec.msb_eq_decide]

theorem shiftLeft_one_toNat (r : Half) : (r <<< 1).toNat = 2 * r.toNat % 65536 := by
  rw [BitVec.toNat_shiftLeft, Nat.shiftLeft_eq, Nat.mul_comm, pow_one]

theorem crcRound_toNat (r : Half) : (crcRound r).toNat = crcRoundVal r.toNat := by
  rw [crcRound, crcRoundVal, getLsbD_15_eq_decide]
  by_cases h : 32768 ≤ r.toNat
  · simp only [h, decide_true, if_true, BitVec.toNat_xor, shiftLeft_one_toNat]
    rfl
  · simp only [h, decide_false, Bool.false_eq_true, if_false, shiftLeft_one_toNat]

theorem crcRounds_toNat (n : Nat) (r : Half) : (crcRounds n r).toNat = crcRoundVal^[n] r.toNat := by
  induction n generalizing r with
  | zero => rfl
  | succ n ih => rw [crcRounds, ih, crcRound_toNat, Function.iterate_succ_apply]

/-- A byte shifted into bits 15..8 is 256 times the byte: no bit is lost (R71). -/
theorem highByte_toNat (b : Byte) : (b.setWidth 16 <<< 8).toNat = 256 * b.toNat := by
  have := b.isLt
  simp [Nat.shiftLeft_eq]
  omega

theorem crcFold_toNat (r : Half) (b : Byte) : (crcFold r b).toNat = crcByteVal r.toNat b.toNat := by
  rw [crcFold, crcRounds_toNat, BitVec.toNat_xor, highByte_toNat, crcByteVal]

theorem crcFrom_toNat (r : Half) (bytes : List Byte) :
    (crcFrom r bytes).toNat = bytes.foldl (fun n b => crcByteVal n b.toNat) r.toNat := by
  induction bytes generalizing r with
  | nil => rfl
  | cons b bytes ih => rw [List.foldl_cons, ← crcFold_toNat, ← ih, crcFrom, crcFrom, List.foldl_cons]

/-- The bytes of a range that lies inside the sequence, by their offsets. -/
theorem range_bytes {bytes : List Byte} {offset length : Nat} (h : offset + length ≤ bytes.length) :
    (bytes.drop offset).take length = (List.range length).map fun i => bytes.getD (offset + i) 0#8 := by
  apply List.ext_getElem
  · simp; omega
  · intro i hi _
    simp only [List.length_take, List.length_drop] at hi
    simp [List.getD_eq_getElem?_getD, List.getElem?_eq_getElem (show offset + i < bytes.length by omega)]

/-- The checksum of a range inside the bytes is R72's formula on numbers. -/
theorem crcRange_toNat {bytes : List Byte} {offset length : Nat} (h : offset + length ≤ bytes.length) :
    (crcRange bytes offset length).toNat = crcVal bytes offset length := by
  rw [crcRange, crcFrom_toNat, range_bytes h, List.foldl_map]
  rfl

@[simp] theorem crcRange_empty (bytes : List Byte) (offset : Nat) :
    crcRange bytes offset 0 = Config.crcInitValue := rfl

/-! ## What the operations answer -/

/-- Checks that all hold leave the answer to the ones after them. -/
theorem firstRefusal_append_of_none {cs : List (Option Refusal)} (h : ∀ c ∈ cs, c = none)
    (ds : List (Option Refusal)) : firstRefusal (cs ++ ds) = firstRefusal ds := by
  induction cs with
  | nil => rfl
  | cons c cs ih =>
    obtain ⟨rfl, hcs⟩ := List.forall_mem_cons.mp h
    exact ih hcs

theorem exec_crcInit {s : State} (hs : Standing s) : exec .crcInit s = .next (s.setCrc Config.crcInitValue) :=
  exec_of_checks hs (by simp [checks])

theorem exec_crcByte {s : State} (hs : Standing s) (hd : (s.crcOf s.issue.agent).defined = true) (b : Byte) :
    exec (.crcByte b) s = .next (s.setCrc (crcFold (s.crcOf s.issue.agent).value b)) :=
  exec_of_checks hs (by simp [checks, hd])

/-- A given sequence may always be read (R72). -/
theorem sourceChecks_given (bytes : List Byte) (s : State) : ∀ c ∈ sourceChecks s (.given bytes), c = none :=
  List.forall_mem_nil _

/-- RXBUF may be the source of a CRC.COMPUTE by RX when its payload is present and keeps still (R36, R47). -/
theorem sourceChecks_rxbuf {s : State} (ha : s.issue.agent = .rx) (hp : s.rxbuf.present = true)
    (hr : RxbufReady s) : ∀ c ∈ sourceChecks s .rxbuf, c = none := by
  obtain ⟨hstill, hfits⟩ := rxbufReady_iff.mpr hr
  simp [sourceChecks, rxRole, ha, hp, hstill, hfits]

/-- CRC.COMPUTE on a source that may be read goes on for a range inside the bytes. -/
theorem exec_crcCompute {s : State} {src : ByteSource} {offset length : Nat} (hs : Standing s)
    (hsrc : ∀ c ∈ sourceChecks s src, c = none) (h : offset + length ≤ (sourceBytes s src).length) :
    exec (.crcCompute src offset length) s = .next (s.setCrc (crcRange (sourceBytes s src) offset length)) :=
  exec_of_checks hs (List.forall_mem_append.mpr ⟨hsrc, by simp [h]⟩)

/-- CRC.COMPUTE on a source that may be read is refused for a range beyond the bytes (R37). -/
theorem exec_crcCompute_refused {s : State} {src : ByteSource} {offset length : Nat} (hs : Standing s)
    (hsrc : ∀ c ∈ sourceChecks s src, c = none) (h : (sourceBytes s src).length < offset + length) :
    exec (.crcCompute src offset length) s = .refused .crcRange :=
  exec_refused hs (by
    rw [checks, firstRefusal_append_of_none hsrc]
    simp [Nat.not_le.mpr h])

/-- Both halves of R72 for any source that may be read, so that the given sequence and RXBUF need no argument of their
own. -/
theorem crcCompute_of_source {src : ByteSource} {s : State} (hs : Standing s)
    (hsrc : ∀ c ∈ sourceChecks s src, c = none) (offset length : Nat) :
    (offset + length ≤ (sourceBytes s src).length →
      ∃ t v, exec (.crcCompute src offset length) s = .next t ∧ t = { s with crc := t.crc }
        ∧ (∀ a, t.crcOf a = if a = s.issue.agent then ⟨v, true⟩ else s.crcOf a)
        ∧ v.toNat = crcVal (sourceBytes s src) offset length)
    ∧ ((sourceBytes s src).length < offset + length →
      exec (.crcCompute src offset length) s = .refused .crcRange) :=
  ⟨fun h => ⟨_, _, exec_crcCompute hs hsrc h, rfl, crcOf_setCrc s _, crcRange_toNat h⟩,
    exec_crcCompute_refused hs hsrc⟩

/-- Settles O3: a given sequence and RXBUF are both sources that may be read; the rest is said of the source. -/
theorem crcComputeOfARange : Obligations.CrcComputeOfARange := by
  rintro src bytes offset length s hs (rfl | ⟨rfl, rfl, hp, ha, hr⟩)
  · exact crcCompute_of_source hs (sourceChecks_given bytes s) offset length
  · exact crcCompute_of_source hs (sourceChecks_rxbuf ha hp hr) offset length

/-- Settles O2: the register takes the fold of the byte, which on numbers is eight rounds. -/
theorem crcByteFoldsOneByte : Obligations.CrcByteFoldsOneByte := fun b s hs hd =>
  ⟨_, _, exec_crcByte hs hd b, rfl, crcOf_setCrc s _, crcFold_toNat _ b⟩

/-- Settles O1: writing the register discards what it held (R69). -/
theorem crcInitLoadsInitialValue : Obligations.CrcInitLoadsInitialValue := fun s hs =>
  ⟨_, exec_crcInit hs, rfl, crcOf_setCrc s _⟩

/-- Settles O4: no byte is folded in, so the register keeps its initial value. -/
theorem crcOfAnEmptyRange : Obligations.CrcOfAnEmptyRange := fun bytes offset s hs h =>
  ⟨_, exec_crcCompute hs (sourceChecks_given bytes s) h, by simp [crcOf_setCrc, Config.crcInitValue]⟩

end Sys2Proof.Proofs
end

section
/-! PROOFS. Unit PARSER (spec/41_decode.md): what DEC.DECODE answers on each class of receive operand (R77, R78), and
the fields and errors on the numbers of the statements (R79 to R85, R90). -/

namespace Sys2Proof.Proofs

open Sys2Proof Sys2Proof.Machine Sys2Proof.Spec

/-! ## Fields on numbers -/

@[simp] theorem be16_toNat (p : List Byte) (k : Nat) : (be16 p k).toNat = be16Val p k := append_toNat _ _

@[simp] theorem be32_toNat (p : List Byte) (k : Nat) : (be32 p k).toNat = be32Val p k := by
  rw [be32, append_half_toNat, be16_toNat, be16_toNat, be32Val]

/-- Steps 3 and 4 and the copy are R79, R80 and R90 on numbers, for a payload of any length. -/
theorem commonFields_commonOf (c : Cfg) (p : List Byte) : CommonOf c p (commonFields c p) :=
  ⟨be32_toNat p 4, rfl, rfl, be16_toNat p _, rfl⟩

/-- The leading digit of R85 is a quotient: the bits 15..12 are the code divided by 4096. -/
theorem leadDigit_toNat (code : Half) : (code.extractLsb' 12 4).toNat = code.toNat / 4096 := by
  have := code.isLt
  simp [Nat.shiftRight_eq_div_pow]
  omega

theorem eventCodeOk_iff {code : Half} : eventCodeOk code = true ↔ LeadOk code.toNat := by
  simp only [eventCodeOk, LeadOk, Bool.or_eq_true, decide_eq_true_eq, ← BitVec.toNat_inj, leadDigit_toNat,
    BitVec.reduceToNat, or_assoc]

/-! ## The zone -/

theorem zoneOf_of_isBcd {zh zl : Byte} (h : IsBcd zh.toNat) (l : IsBcd zl.toNat) :
    zoneOf zh zl = .ok (100 * bcdVal zh.toNat + bcdVal zl.toNat) := by
  simp [zoneOf, bcd_of_isBcd h, bcd_of_isBcd l]

/-- The byte at the lower offset is checked first (R83). -/
theorem zoneOf_of_bad_high {zh : Byte} (h : ¬ IsBcd zh.toNat) (zl : Byte) : zoneOf zh zl = .error zh := by
  simp [zoneOf, bcd_of_not_isBcd h]

theorem zoneOf_of_bad_low {zh zl : Byte} (h : IsBcd zh.toNat) (l : ¬ IsBcd zl.toNat) : zoneOf zh zl = .error zl := by
  simp [zoneOf, bcd_of_isBcd h, bcd_of_not_isBcd l]

/-! ## The event steps -/

section EventSteps

variable {c : Cfg} {p : List Byte}

/-- The event steps accept, or raise one of their two errors (R82, R83, R85). -/
theorem parseEvent_cases (c : Cfg) (p : List Byte) :
    (∃ e, parseEvent c p = .ok (.event e)) ∨ (∃ b, parseEvent c p = .error (.invalidBcd b))
      ∨ ∃ code, parseEvent c p = .error (.invalidEventCode code) := by
  unfold parseEvent
  split
  · exact .inr (.inl ⟨_, rfl⟩)
  · split
    · exact .inl ⟨_, rfl⟩
    · exact .inr (.inr ⟨_, rfl⟩)

/-- A bad zone byte is reported before the event code is looked at (R83, R86). -/
theorem parseEvent_of_bad_zone {b : Byte} (h : zoneOf (byteAt p c.offZone) (byteAt p (c.offZone + 1)) = .error b) :
    parseEvent c p = .error (.invalidBcd b) := by
  simp [parseEvent, h]

/-- The zone of a payload whose zone bytes are BCD, on numbers (R56, R84). -/
theorem zoneOf_payload (hzh : IsBcd (byteVal p c.offZone)) (hzl : IsBcd (byteVal p (c.offZone + 1))) :
    zoneOf (byteAt p c.offZone) (byteAt p (c.offZone + 1))
      = .ok (100 * bcdVal (byteVal p c.offZone) + bcdVal (byteVal p (c.offZone + 1))) :=
  zoneOf_of_isBcd hzh hzl

/-- Good zone bytes and a good code leave the event steps no error to raise (R82, R84). -/
theorem parseEvent_of_good (hzh : IsBcd (byteVal p c.offZone)) (hzl : IsBcd (byteVal p (c.offZone + 1)))
    (hlead : LeadOk (be16Val p c.offEventCode)) :
    ∃ g, EventOf c p g ∧ parseEvent c p = .ok (.event ⟨commonFields c p, g⟩) := by
  have hc : eventCodeOk (be16 p c.offEventCode) = true := eventCodeOk_iff.mpr (by rwa [be16_toNat])
  refine ⟨⟨be16 p c.offAccount, be16 p c.offEventCode, byteAt p c.offPartition, _⟩,
    ⟨be16_toNat p _, be16_toNat p _, rfl, rfl⟩, ?_⟩
  simp [parseEvent, zoneOf_payload hzh hzl, hc]

/-- With a good zone the code is looked at, and a bad one reported whole (R85). -/
theorem parseEvent_of_bad_code (hzh : IsBcd (byteVal p c.offZone)) (hzl : IsBcd (byteVal p (c.offZone + 1)))
    (hlead : ¬ LeadOk (be16Val p c.offEventCode)) :
    parseEvent c p = .error (.invalidEventCode (be16 p c.offEventCode)) := by
  have hc : ¬ eventCodeOk (be16 p c.offEventCode) = true := by rwa [eventCodeOk_iff, be16_toNat]
  simp [parseEvent, zoneOf_payload hzh hzl, hc]

end EventSteps

/-! ## What DEC.DECODE answers -/

/-- DEC.DECODE of a present payload of 30 bytes answers what the event steps find in it (R78). -/
theorem exec_decDecode_event {s : State} (h : RxReady s) (hr : RxbufReady s) (hp : s.rxbuf.present = true)
    (hl : s.rxbuf.data.length = 30) {d : DecodeOutcome} (hd : parseEvent s.cfg s.rxbuf.data = d) :
    exec .decDecode s = .next { s with dec := some d } := by
  rw [exec_decDecode h hr, decodeRx_event s.cfg hp hl, hd]

/-- Settles O11: the fields are the ones the event steps read, each a byte or two of the payload. -/
theorem decodeOfAnEvent : Obligations.DecodeOfAnEvent := by
  intro s h hr hp hl hzh hzl hlead
  obtain ⟨g, hg, hd⟩ := parseEvent_of_good hzh hzl hlead
  exact ⟨_, g, commonFields_commonOf _ _, hg, exec_decDecode_event h hr hp hl hd⟩

/-- Settles O12: the byte at the lower offset is the one reported exactly when it is bad itself. -/
theorem decodeOfABadZoneByte : Obligations.DecodeOfABadZoneByte := by
  intro s h hr hp hl hbad
  by_cases hzh : IsBcd (byteVal s.rxbuf.data s.cfg.offZone)
  · have hzl : ¬ IsBcd (byteVal s.rxbuf.data (s.cfg.offZone + 1)) := fun hzl => hbad ⟨hzh, hzl⟩
    exact ⟨byteAt s.rxbuf.data (s.cfg.offZone + 1), fun _ => rfl, fun hn => absurd hzh hn,
      exec_decDecode_event h hr hp hl (parseEvent_of_bad_zone (zoneOf_of_bad_low hzh hzl))⟩
  · exact ⟨byteAt s.rxbuf.data s.cfg.offZone, fun hy => absurd hy hzh, fun _ => rfl,
      exec_decDecode_event h hr hp hl (parseEvent_of_bad_zone (zoneOf_of_bad_high hzh _))⟩

/-- Settles O13: the zone is good, so the code is looked at, and reported whole. -/
theorem decodeOfABadEventCode : Obligations.DecodeOfABadEventCode := by
  intro s h hr hp hl hzh hzl hlead
  exact ⟨_, be16_toNat _ _, exec_decDecode_event h hr hp hl (parseEvent_of_bad_code hzh hzl hlead)⟩

/-- Settles O10: 18 bytes have no further step that could fail. -/
theorem decodeOfAHeartbeat : Obligations.DecodeOfAHeartbeat := by
  intro s h hr hp hl
  refine ⟨_, commonFields_commonOf s.cfg s.rxbuf.data, ?_⟩
  rw [exec_decDecode h hr, decodeRx_heartbeat s.cfg hp hl, parseHeartbeat]

/-- Settles O9: the outcome is the parser's, and the parser's classes are told apart by the length. -/
theorem decodeClassifiesByLength : Obligations.DecodeClassifiesByLength := by
  intro s h hr hp
  refine ⟨decodeRx s.cfg s.rxbuf, exec_decDecode h hr, fun h18 => ?_, fun h30 => ?_, decodeRx_badLen s.cfg hp⟩
  · exact ⟨_, decodeRx_heartbeat s.cfg hp h18⟩
  · rw [decodeRx_event s.cfg hp h30]
    exact parseEvent_cases s.cfg s.rxbuf.data

/-- Settles O8: an absent payload is never too long, so DEC.DECODE goes on whatever bytes RXBUF holds. -/
theorem decodeOfAnAbsentPayload : Obligations.DecodeOfAnAbsentPayload := by
  intro s h hstill hp
  have hr : RxbufReady s := ⟨hstill, fun hpres => by simp [hp] at hpres⟩
  rw [exec_decDecode h hr, decodeRx_absent s.cfg hp]

end Sys2Proof.Proofs
end

section
/-! PROOFS. Unit ACKGEN (spec/42_ack.md): what ACK.BUILD answers when there is no header to read (R93). -/

namespace Sys2Proof.Proofs

open Sys2Proof Sys2Proof.Machine Sys2Proof.Spec

/-! ## The end of an ACK.BUILD -/

/-- R92: without a header the operation ends in its error, before the checksum, so ACKGEN's register stays as it was. -/
theorem endAck_none (s : State) : s.endAck none = { s with ack := some .payloadTooShort } := rfl

/-! ## What ACK.BUILD answers -/

/-- Settles O24: such a payload has no header, and without one only the status is written. -/
theorem ackOfAShortPayload : Obligations.AckOfAShortPayload := by
  intro s h hr hshort
  rw [exec_ackBuild h hr, headerOf_short hshort, endAck_none]

end Sys2Proof.Proofs
end

section
/-! PROOFS. Unit EVQ (spec/43_fifo.md): what EVQ.PUSH and EVQ.TRYPOP answer and write (R99, R100). -/

namespace Sys2Proof.Proofs

open Sys2Proof Sys2Proof.Machine Sys2Proof.Spec

/-! ## The two effects -/

/-- R99 in closed form: the heads in excess of the capacity go, and their number is PUSH.discards. -/
theorem push_eq (s : State) (e : QueuedEvent) :
    s.push e =
      { s with
        evqItems := (s.evqItems ++ [e]).drop (s.evqItems.length + 1 - s.capacity)
        pushDiscards := some (s.evqItems.length + 1 - s.capacity) } := by
  rw [State.push, trimHead_eq, List.length_append, List.length_singleton]

theorem popHead_of_empty {s : State} (h : s.evqItems = []) : s.popHead = { s with pop := some .empty } := by
  rw [State.popHead, h]

theorem popHead_of_cons {s : State} {e : QueuedEvent} {es : List QueuedEvent} (h : s.evqItems = e :: es) :
    s.popHead = { s with evqItems := es, pop := some (.event e) } := by
  rw [State.popHead, h]

/-! ## What the operations answer -/

/-- Settles O27: the loop of R99 in closed form, for every capacity and every length. -/
theorem pushAppendsAndDiscardsTheOldest : Obligations.PushAppendsAndDiscardsTheOldest := by
  intro e s he h
  have hpush := exec_evqPush he h
  rw [push_eq] at hpush
  exact ⟨_, hpush, rfl, rfl, rfl⟩

/-- Settles O29: the two cases of R100, told apart by whether there is a head. -/
theorem tryPopTakesTheHead : Obligations.TryPopTakesTheHead := by
  intro s h
  rw [exec_evqTryPop h]
  exact ⟨fun hnil => congrArg _ (popHead_of_empty hnil), fun _ _ hcons => congrArg _ (popHead_of_cons hcons)⟩

end Sys2Proof.Proofs
end

section
/-! PROOFS. Unit PRES (spec/44_presence.md): what PRES.RECHB writes, and that entries stay (R108, R111). -/

namespace Sys2Proof.Proofs

open Sys2Proof Sys2Proof.Machine Sys2Proof.Spec

/-! ## An entry set -/

/-- Identifiers are keys of their own: setting the entry of one leaves the others (R24). -/
theorem lookup_insert_other_id (m : KeyMap PresenceEntry) (e : PresenceEntry) {id id' : DevId} (h : id' ≠ id) :
    lookupKey (insertKey m id.toNat e) id'.toNat = lookupKey m id'.toNat :=
  lookup_insert_other m e fun hn => h (BitVec.eq_of_toNat_eq hn)

/-- Settles O33: the next state is the recorded one, which differs in one entry of the map. -/
theorem heartbeatIsRecorded : Obligations.HeartbeatIsRecorded := by
  intro id now s h
  exact ⟨_, exec_presRecHb h, lookup_insert_same _ _ _, fun _ hne => lookup_insert_other_id _ _ hne, rfl⟩

/-! ## Entries stay -/

/-- Whatever identifier is recorded, one that had an entry has one, online if it was. -/
theorem lookup_insert_online (m : KeyMap PresenceEntry) (rec : DevId) (now : TS) {id : DevId} {e : PresenceEntry}
    (h : lookupKey m id.toNat = some e) :
    ∃ e', lookupKey (insertKey m rec.toNat ⟨now, true⟩) id.toNat = some e' ∧ (e.online = true → e'.online = true) := by
  by_cases hid : id = rec
  · subst hid
    exact ⟨_, lookup_insert_same _ _ _, fun _ => rfl⟩
  · exact ⟨e, (lookup_insert_other_id _ _ hid).trans h, fun honline => honline⟩

/-- Settles O35: an instruction other than RESET leaves the map alone or sets one entry, online. -/
theorem presenceNeverExpires : Obligations.PresenceNeverExpires := by
  intro i s t id e hreset hnext h
  rw [effect_of_next hnext]
  rcases effect_presMap i s hreset with hsame | ⟨rec, now, hset⟩
  · exact ⟨e, by rw [hsame, h], fun honline => honline⟩
  · rw [hset]
    exact lookup_insert_online s.presMap rec now h

end Sys2Proof.Proofs
end

section
/-! PROOFS. The acknowledgement frame (spec/42_ack.md): a sealed header has the bytes of format ACK18 and its own
checksum (R52, R94 to R96). -/

namespace Sys2Proof.Proofs

open Sys2Proof Sys2Proof.Machine Sys2Proof.Spec

/-- The checksum of the first bytes does not depend on the bytes after them (R72). -/
theorem crcRange_append_left {p : List Byte} {n : Nat} (h : n ≤ p.length) (q : List Byte) :
    crcRange (p ++ q) 0 n = crcRange p 0 n := by
  simp [crcRange, List.take_append_of_le_length h]

/-- R96: the last two bytes of a sealed header are the checksum of the sixteen before them, high byte first. -/
theorem ackSeal_checksum {header : List Byte} (h : header.length = 16) :
    be16Val (ackSeal header) 16 = crcVal (ackSeal header) 0 16 := by
  have htrailer : be16 (ackSeal header) 16 = ackSum header := by
    simp [be16, byteAt, ackSeal, h, hi_append_lo]
  have hsum : ackSum header = crcRange (ackSeal header) 0 16 := (crcRange_append_left h.ge _).symm
  rw [← be16_toNat, htrailer, hsum, crcRange_toNat (by simp [ackSeal, h])]

/-- A header made of a command byte and seven copied bytes is sealed to the frame of R52 for them. -/
theorem ackSeal_ackOf (inb : Nat → Byte) :
    AckOf inb (ackSeal (ackHeader (inb 11) [inb 4, inb 5, inb 6, inb 7, inb 8, inb 9, inb 10])) := by
  refine ⟨rfl, rfl, rfl, rfl, rfl, fun k hlo hhi => ?copied, rfl, rfl, rfl, rfl, rfl, ackSeal_checksum rfl⟩
  interval_cases k <;> rfl

/-- R92: ACK.BUILD of a present payload of at least 12 bytes answers the frame of R52 for that payload. -/
theorem ackOutcome_long {rx : RxBuf} (hp : rx.present = true) (hl : 12 ≤ rx.data.length) :
    ∃ a, ackOutcome rx = .ok a ∧ AckOf (fun k => rx.data.getD k 0#8) a :=
  ⟨_, ackOutcome_of_header (headerOf_long hp hl), ackSeal_ackOf fun k => rx.data.getD k 0#8⟩

end Sys2Proof.Proofs
end

section
/-! PROOFS. The sequencers (spec/45_sequencers.md): RX.FRAME as its three sub-operations, what it changes, which
payloads it acknowledges (R113 to R116), and what WK.STEP answers (R117). -/

namespace Sys2Proof.Proofs

open Sys2Proof Sys2Proof.Machine Sys2Proof.Spec

/-! ## The contract between the sub-operations -/

/-- The contract reads the circumstances, the configuration and RXBUF only, and the routing step leaves these alone. -/
theorem frameReady_route {s : State} (h : FrameReady s) (d : DecodeOutcome) : FrameReady (s.route d) := by
  simpa only [FrameReady, RxReady, RxbufReady, Standing, Alone, State.route_issue, State.route_cfg,
    State.route_rxbuf] using h

theorem pushReady_of_frameReady {s : State} (h : FrameReady s) : PushReady s := by
  obtain ⟨hrx, -, halone⟩ := h
  have hsub : [Op.evqPush, .rxFrame] ⊆ [Op.evqPush, .presRecHb, .rxFrame] := by decide
  exact ⟨hrx, fun o ho => halone o (hsub ho)⟩

theorem recordReady_of_frameReady {s : State} (h : FrameReady s) : RecordReady s := by
  obtain ⟨hrx, -, halone⟩ := h
  exact ⟨hrx, fun o ho => halone o (List.mem_cons_of_mem _ ho)⟩

/-! ## RX.FRAME as its sub-operations -/

theorem runOps_append (is js : List Instr) (s : State) : runOps (is ++ js) s = (runOps is s).bind (runOps js) := by
  induction is generalizing s with
  | nil => rfl
  | cons i is ih =>
    simp only [List.cons_append, runOps]
    cases exec i s with
    | next t => exact ih t
    | fault r => rfl
    | refused r => rfl

theorem runOps_singleton {i : Instr} {s t : State} (h : exec i s = .next t) : runOps [i] s = some t := by
  simp only [runOps, h]

/-- Step 2 of RX.FRAME is the operation that R114 names for the decode outcome, or none. -/
theorem runOps_routeOps {s : State} (h : FrameReady s) {d : DecodeOutcome}
    (hvalid : ∀ e, d = .ok (.event e) → eventValid e = true) :
    runOps (routeOps d s.rxbuf.now) s = some (s.route d) := by
  match d with
  | .ok (.event e) => exact runOps_singleton (exec_evqPush (hvalid e rfl) (pushReady_of_frameReady h))
  | .ok (.heartbeat c) => exact runOps_singleton (exec_presRecHb (recordReady_of_frameReady h))
  | .error x => rfl

/-- Steps 2 and 3 of RX.FRAME, one after the other (R113). -/
theorem runOps_route_ackBuild {s : State} (h : FrameReady s) {d : DecodeOutcome}
    (hvalid : ∀ e, d = .ok (.event e) → eventValid e = true) :
    runOps (routeOps d s.rxbuf.now ++ [.ackBuild]) s = some ((s.route d).endAck (headerOf s.rxbuf)) := by
  obtain ⟨hrx, hbuf, -⟩ := frameReady_route h d
  rw [runOps_append, runOps_routeOps h hvalid, Option.bind_some, runOps_singleton (exec_ackBuild hrx hbuf),
    State.route_rxbuf]

/-- The acknowledgement outcome that ACK.BUILD writes is the outcome RX.FRAME returns (R92, R113). -/
theorem endAck_ackOutcome (s : State) (rx : RxBuf) : (s.endAck (headerOf rx)).ack = some (ackOutcome rx) := by
  rw [State.endAck_ack, ackOutcome]
  cases headerOf rx <;> rfl

/-- RX.FRAME's effect as the effects of its three sub-operations, in the order of R113. -/
theorem frame_eq_endFrame {s : State} {d : DecodeOutcome} (hd : decodeRx s.cfg s.rxbuf = d) :
    s.frame = ((State.route { s with dec := some d } d).endAck (headerOf s.rxbuf)).endFrame d (routeDiscards s d) := by
  rw [← endDecode_eq, ← hd]
  rfl

/-- Settles O36: each sub-operation keeps the contract of the next, and their effects make up RX.FRAME's. -/
theorem rxFrameIsDecodeRouteAcknowledge : Obligations.RxFrameIsDecodeRouteAcknowledge := by
  intro s h
  obtain ⟨d, hd⟩ : ∃ d, decodeRx s.cfg s.rxbuf = d := ⟨_, rfl⟩
  have ⟨hrx, hbuf, _⟩ := h
  have hdecode := exec_decDecode hrx hbuf
  rw [hd] at hdecode
  have hvalid : ∀ e, d = .ok (.event e) → eventValid e = true := fun e he => decodeRx_valid (hd.trans he)
  refine ⟨_, d, _, ackOutcome s.rxbuf, s.frame, hdecode, rfl,
    runOps_route_ackBuild (s := { s with dec := some d }) h hvalid, endAck_ackOutcome _ _, exec_rxFrame h, ?_⟩
  -- Once the header and the kind of the outcome are known, both sides are the same record.
  rw [frame_eq_endFrame hd]
  cases headerOf s.rxbuf <;>
    match d with
    | .ok (.event e) | .ok (.heartbeat c) | .error x => rfl

/-! ## What RX.FRAME changes -/

/-- The parser's heartbeats are the common fields of the payload (R79 to R81): the event steps accept events only. -/
theorem commonFields_of_heartbeat {c : Cfg} {rx : RxBuf} {f : CommonFields}
    (h : decodeRx c rx = .ok (.heartbeat f)) : f = commonFields c rx.data := by
  unfold decodeRx at h
  split at h
  · nomatch h
  · cases h
    rfl
  · rcases parseEvent_cases c rx.data with ⟨e, he⟩ | ⟨b, he⟩ | ⟨code, he⟩ <;> rw [he] at h <;> nomatch h
  · nomatch h

/-- What RX.FRAME can change: the stores, the outputs of its sub-operations and its own (R87, R92, R99, R108, R113). -/
theorem frame_eq (s : State) :
    s.frame =
      { s with
        evqItems := s.frame.evqItems, presMap := s.frame.presMap, dec := s.frame.dec, ack := s.frame.ack
        ackCrc := s.frame.ackCrc, pushDiscards := s.frame.pushDiscards, frameResult := s.frame.frameResult
        sender := s.frame.sender, rxPending := s.frame.rxPending } := by
  unfold State.frame
  generalize decodeRx s.cfg s.rxbuf = d
  cases headerOf s.rxbuf <;>
    match d with
    | .ok (.event e) | .ok (.heartbeat c) | .error x => rfl

/-- Settles O37: the stores after RX.FRAME are those after its routing step, which the decode outcome selects. -/
theorem rxFrameRoutesByKind : Obligations.RxFrameRoutesByKind := by
  intro s h
  refine ⟨s.frame, _, exec_rxFrame h, State.frame_frameResult s, State.frame_dec s, ?heartbeat, ?event, ?error,
    frame_eq s, ?noEvent⟩
  case heartbeat =>
    intro c (hd : decodeRx s.cfg s.rxbuf = _)
    have hmap : s.frame.presMap = insertKey s.presMap c.deviceId.toNat ⟨s.rxbuf.now, true⟩ := by
      rw [State.frame_presMap, hd, State.route_heartbeat, State.recordHb_presMap]
    refine ⟨by simp [hd], ?_, ?_, fun id hne => ?_⟩
    · rw [commonFields_of_heartbeat hd]
      exact be32_toNat _ 4
    · rw [hmap, lookup_insert_same]
    · rw [hmap, lookup_insert_other_id _ _ hne]
  case event =>
    intro e (hd : decodeRx s.cfg s.rxbuf = _)
    refine ⟨by simp [hd], ?_, ?_⟩
    · rw [State.frame_evqItems, hd, State.route_event, push_eq]
    · simp [hd, routeDiscards, trimHead_eq]
  case error =>
    intro x (hd : decodeRx s.cfg s.rxbuf = _)
    simp [hd, routeDiscards]
  case noEvent =>
    intro (hne : ∀ e, decodeRx s.cfg s.rxbuf ≠ .ok (.event e))
    rw [State.frame_pushDiscards]
    match hd : decodeRx s.cfg s.rxbuf with
    | .ok (.event e) => exact absurd hd (hne e)
    | .ok (.heartbeat c) | .error x => rfl

/-! ## Which payloads RX.FRAME acknowledges -/

/-- Settles O38: the acknowledgement is ACK.BUILD's, which does not read the decode outcome. -/
theorem everyLongPayloadIsAcknowledged : Obligations.EveryLongPayloadIsAcknowledged := by
  intro s h
  refine ⟨s.frame, exec_rxFrame h, fun ⟨hp, hl⟩ => ?long, fun hshort => ?short⟩
  case long =>
    obtain ⟨a, ha, hack⟩ := ackOutcome_long hp hl
    exact ⟨a, by rw [State.frame_ack, ha], by rw [State.frame_sender, ha, ackBuf], hack⟩
  case short =>
    have ha : ackOutcome s.rxbuf = .payloadTooShort :=
      ackOutcome_short (by rwa [not_and_or, Bool.not_eq_true, not_le] at hshort)
    exact ⟨by rw [State.frame_ack, ha], by rw [State.frame_sender, ha, ackBuf]⟩

/-! ## What WK.STEP answers -/

theorem submit_of_empty {s : State} (h : s.evqItems = []) (a : SinkAnswer) :
    s.submit a = { s with pop := some .empty, sinkAnswer := none, sinkFailure := none } := by
  simp only [State.submit, h, popHead_of_empty h]

theorem submit_of_cons {s : State} {e : QueuedEvent} {es : List QueuedEvent} (h : s.evqItems = e :: es)
    (a : SinkAnswer) :
    s.submit a =
      { s with
        evqItems := es, pop := some (.event e), sinkAnswer := some a
        sinkFailure := if a = .failure then some e else none } := by
  simp only [State.submit, h, popHead_of_cons h]
  cases a <;> rfl

/-- Settles O40: the pop tells the two cases of R117 apart, and the sink's answer only chooses the signal. -/
theorem wkStepSubmitsTheHead : Obligations.WkStepSubmitsTheHead := by
  intro a s h
  rw [exec_wkStep h]
  exact ⟨fun hnil => congrArg _ (submit_of_empty hnil a), fun _ _ hcons => congrArg _ (submit_of_cons hcons a)⟩

end Sys2Proof.Proofs
end

section
/-! PROOFS. Unit RESET (spec/70_reset_and_hazards.md): the operand RESET takes and the stores it leaves (R139). -/

namespace Sys2Proof.Proofs

open Sys2Proof Sys2Proof.Machine Sys2Proof.Spec

@[simp] theorem resetCapacity_some (n : Nat) : resetCapacity (some n) = n := rfl

@[simp] theorem resetCapacity_none : resetCapacity none = 500 := rfl

/-- Settles O42: RESET answers the restarted state, whose capacity is the operand or its default. -/
theorem resetEmptiesTheStores : Obligations.ResetEmptiesTheStores := by
  intro c s h
  refine ⟨s.restart (resetCapacity c), exec_reset h, State.restart_evqItems s _, State.restart_presMap s _, ?given,
    ?default, State.restart_cfg s _⟩
  case given =>
    rintro n rfl
    rw [State.restart_capacity, resetCapacity_some]
  case default =>
    rintro rfl
    rw [State.restart_capacity, resetCapacity_none]

end Sys2Proof.Proofs
end

section
/-! PROOFS. The inbound frame formats laid out from their fields (spec/30_encoding.md R50, R51, R54): a layout is a list
of single bytes written at different offsets, so each offset reads back as the byte written there. -/

namespace Sys2Proof.Proofs

open Sys2Proof Sys2Proof.Machine Sys2Proof.Spec

/-! ## Bytes written at different offsets -/

/-- Single bytes written into a sequence, each at its offset, one after another. -/
def writeBytes (p : List Byte) (ws : List (Nat × Byte)) : List Byte := ws.foldl (fun p w => p.set w.1 w.2) p

@[simp] theorem writeBytes_length (p : List Byte) (ws : List (Nat × Byte)) : (writeBytes p ws).length = p.length := by
  induction ws generalizing p with
  | nil => rfl
  | cons w ws ih => exact (ih _).trans (List.length_set ..)

/-- An offset nothing is written at keeps its byte. -/
theorem byteAt_writeBytes_other (p : List Byte) {ws : List (Nat × Byte)} {k : Nat} (h : k ∉ ws.map Prod.fst) :
    byteAt (writeBytes p ws) k = byteAt p k := by
  induction ws generalizing p with
  | nil => rfl
  | cons w ws ih =>
    rw [List.map_cons, List.mem_cons, not_or] at h
    exact (ih _ h.2).trans (byteAt_congr (List.getElem?_set_ne (Ne.symm h.1)))

/-- When no offset is written at twice, each holds the byte written there. -/
theorem byteAt_writeBytes {p : List Byte} {ws : List (Nat × Byte)} (hnodup : (ws.map Prod.fst).Nodup)
    (hlt : ∀ k ∈ ws.map Prod.fst, k < p.length) {k : Nat} {v : Byte} (h : (k, v) ∈ ws) :
    byteAt (writeBytes p ws) k = v := by
  induction ws generalizing p with
  | nil => cases h
  | cons w ws ih =>
    obtain ⟨hw, hws⟩ := List.nodup_cons.mp hnodup
    obtain ⟨hltw, hltws⟩ := List.forall_mem_cons.mp hlt
    rcases List.mem_cons.mp h with rfl | h
    · exact (byteAt_writeBytes_other _ hw).trans (by rw [byteAt_set p k k v hltw, if_pos rfl])
    · exact ih hws (fun k hk => by rw [List.length_set]; exact hltws k hk) h

/-! ## The two formats as written bytes -/

/-- The bytes of the fields common to both formats, at their offsets (R50). -/
def commonWrites (c : Cfg) (f : CommonFields) : List (Nat × Byte) :=
  [(4, hiByte (f.deviceId.extractLsb' 16 16)), (5, loByte (f.deviceId.extractLsb' 16 16)),
    (6, hiByte (f.deviceId.extractLsb' 0 16)), (7, loByte (f.deviceId.extractLsb' 0 16)), (10, f.channel),
    (c.offTech, f.technology)]

/-- The bytes of a heartbeat's fields, at their offsets (R50). -/
def heartbeatWrites (c : Cfg) (f : CommonFields) : List (Nat × Byte) :=
  commonWrites c f ++ [(16, hiByte f.crc16), (17, loByte f.crc16)]

/-- The bytes of an event's fields, at their offsets (R51). -/
def eventWrites (c : Cfg) (f : CommonFields) (g : EventFields) : List (Nat × Byte) :=
  commonWrites c f ++
    [(c.offAccount, hiByte g.account), (c.offAccount + 1, loByte g.account), (c.offEventCode, hiByte g.eventCode),
      (c.offEventCode + 1, loByte g.eventCode), (c.offPartition, g.partition), (c.offZone, bcdByte (g.zone / 100)),
      (c.offZone + 1, bcdByte (g.zone % 100)), (28, hiByte f.crc16), (29, loByte f.crc16)]

theorem layoutHeartbeat_eq (c : Cfg) (base : List Byte) (f : CommonFields) :
    layoutHeartbeat c base f = writeBytes base (heartbeatWrites c f) := by
  simp only [layoutHeartbeat, layoutCommon, put32, put16, writeBytes, heartbeatWrites, commonWrites, List.cons_append,
    List.nil_append, List.foldl_cons, List.foldl_nil, Config.offDevId, Config.offChannel]

theorem layoutEvent_eq (c : Cfg) (base : List Byte) (f : CommonFields) (g : EventFields) :
    layoutEvent c base f g = writeBytes base (eventWrites c f g) := by
  simp only [layoutEvent, layoutCommon, put32, put16, writeBytes, eventWrites, commonWrites, List.cons_append,
    List.nil_append, List.foldl_cons, List.foldl_nil, Config.offDevId, Config.offChannel]

theorem heartbeatWrites_offsets (c : Cfg) (f : CommonFields) :
    (heartbeatWrites c f).map Prod.fst = heartbeatOffsets c := rfl

theorem eventWrites_offsets (c : Cfg) (f : CommonFields) (g : EventFields) :
    (eventWrites c f g).map Prod.fst = eventOffsets c := rfl

/-- An admitted configuration keeps the fields of an event frame inside its 30 bytes (R4). -/
theorem eventOffsets_lt {c : Cfg} (h : cfgValid c = true) : ∀ k ∈ eventOffsets c, k < 30 := by
  simp only [cfgValid, Bool.and_eq_true, decide_eq_true_eq] at h
  simp only [eventOffsets, List.forall_mem_cons, List.not_mem_nil, false_imp_iff, implies_true, and_true]
  omega

/-- An admitted configuration keeps the fields of a heartbeat frame inside its 18 bytes (R4). -/
theorem heartbeatOffsets_lt {c : Cfg} (h : cfgValid c = true) : ∀ k ∈ heartbeatOffsets c, k < 18 := by
  simp only [cfgValid, Bool.and_eq_true, decide_eq_true_eq] at h
  simp only [heartbeatOffsets, List.forall_mem_cons, List.not_mem_nil, false_imp_iff, implies_true, and_true]
  omega

@[simp] theorem layoutHeartbeat_length (c : Cfg) (base : List Byte) (f : CommonFields) :
    (layoutHeartbeat c base f).length = base.length := by
  rw [layoutHeartbeat_eq, writeBytes_length]

@[simp] theorem layoutEvent_length (c : Cfg) (base : List Byte) (f : CommonFields) (g : EventFields) :
    (layoutEvent c base f g).length = base.length := by
  rw [layoutEvent_eq, writeBytes_length]

theorem byteAt_layoutHeartbeat {c : Cfg} {base : List Byte} {f : CommonFields} (hc : cfgValid c = true)
    (hl : base.length = 18) (hnodup : (heartbeatOffsets c).Nodup) {k : Nat} {v : Byte}
    (h : (k, v) ∈ heartbeatWrites c f) : byteAt (layoutHeartbeat c base f) k = v := by
  rw [← heartbeatWrites_offsets c f] at hnodup
  rw [layoutHeartbeat_eq]
  exact byteAt_writeBytes hnodup (hl ▸ heartbeatOffsets_lt hc) h

theorem byteAt_layoutEvent {c : Cfg} {base : List Byte} {f : CommonFields} {g : EventFields} (hc : cfgValid c = true)
    (hl : base.length = 30) (hnodup : (eventOffsets c).Nodup) {k : Nat} {v : Byte} (h : (k, v) ∈ eventWrites c f g) :
    byteAt (layoutEvent c base f g) k = v := by
  rw [← eventWrites_offsets c f g] at hnodup
  rw [layoutEvent_eq]
  exact byteAt_writeBytes hnodup (hl ▸ eventOffsets_lt hc) h

/-! ## Fields read back -/

/-- Two bytes of a field, read back where they stand (R31). -/
theorem be16_of_bytes {p : List Byte} {k : Nat} {v : Half} (hhi : byteAt p k = hiByte v)
    (hlo : byteAt p (k + 1) = loByte v) : be16 p k = v := by
  rw [be16, hhi, hlo, hi_append_lo]

/-- The common fields of a sequence that holds their bytes, whatever else it holds (R79, R80). -/
theorem commonFields_of_bytes {c : Cfg} {p : List Byte} {f : CommonFields}
    (hbytes : ∀ k v, (k, v) ∈ commonWrites c f → byteAt p k = v) (htrailer : be16 p (p.length - 2) = f.crc16) :
    commonFields c p = { f with raw := p } := by
  simp only [commonWrites, List.mem_cons, List.not_mem_nil, or_false, Prod.mk.injEq] at hbytes
  have hhigh : be16 p 4 = f.deviceId.extractLsb' 16 16 := be16_of_bytes (hbytes 4 _ (by simp)) (hbytes 5 _ (by simp))
  have hlow : be16 p 6 = f.deviceId.extractLsb' 0 16 := be16_of_bytes (hbytes 6 _ (by simp)) (hbytes 7 _ (by simp))
  have hid : be32 p 4 = f.deviceId := by rw [be32, hhigh, hlow, halves_append]
  have hch : byteAt p 10 = f.channel := hbytes 10 _ (by simp)
  have htech : byteAt p c.offTech = f.technology := hbytes c.offTech _ (by simp)
  simp only [commonFields, Config.offDevId, Config.offChannel, hid, hch, htech, htrailer]

/-- A zone's two BCD bytes are worth the zone (R56). -/
theorem zoneOf_bcdBytes {z : Nat} (h : z ≤ 9999) : zoneOf (bcdByte (z / 100)) (bcdByte (z % 100)) = .ok z := by
  simp only [zoneOf, bcd_bcdByte (show z / 100 < 100 by omega), bcd_bcdByte (show z % 100 < 100 by omega)]
  rw [Nat.div_add_mod]

theorem parseHeartbeat_layoutHeartbeat {c : Cfg} {base : List Byte} (f : CommonFields) (hc : cfgValid c = true)
    (hl : base.length = 18) (hnodup : (heartbeatOffsets c).Nodup) :
    parseHeartbeat c (layoutHeartbeat c base f) = .ok (.heartbeat { f with raw := layoutHeartbeat c base f }) := by
  have hbytes : ∀ k v, (k, v) ∈ heartbeatWrites c f → byteAt (layoutHeartbeat c base f) k = v :=
    fun _ _ => byteAt_layoutHeartbeat hc hl hnodup
  have htrailer : be16 (layoutHeartbeat c base f) ((layoutHeartbeat c base f).length - 2) = f.crc16 := by
    rw [layoutHeartbeat_length, hl]
    exact be16_of_bytes (hbytes 16 _ (by simp [heartbeatWrites])) (hbytes 17 _ (by simp [heartbeatWrites]))
  rw [parseHeartbeat, commonFields_of_bytes (fun k v h => hbytes k v (List.mem_append_left _ h)) htrailer]

theorem parseEvent_layoutEvent {c : Cfg} {base : List Byte} (f : CommonFields) {g : EventFields}
    (hc : cfgValid c = true) (hl : base.length = 30) (hnodup : (eventOffsets c).Nodup)
    (hlead : LeadOk g.eventCode.toNat) (hzone : g.zone ≤ 9999) :
    parseEvent c (layoutEvent c base f g) = .ok (.event ⟨{ f with raw := layoutEvent c base f g }, g⟩) := by
  have hbytes : ∀ k v, (k, v) ∈ eventWrites c f g → byteAt (layoutEvent c base f g) k = v :=
    fun _ _ => byteAt_layoutEvent hc hl hnodup
  have htrailer : be16 (layoutEvent c base f g) ((layoutEvent c base f g).length - 2) = f.crc16 := by
    rw [layoutEvent_length, hl]
    exact be16_of_bytes (hbytes 28 _ (by simp [eventWrites])) (hbytes 29 _ (by simp [eventWrites]))
  have haccount : be16 (layoutEvent c base f g) c.offAccount = g.account :=
    be16_of_bytes (hbytes _ _ (by simp [eventWrites])) (hbytes _ _ (by simp [eventWrites]))
  have hcode : be16 (layoutEvent c base f g) c.offEventCode = g.eventCode :=
    be16_of_bytes (hbytes _ _ (by simp [eventWrites])) (hbytes _ _ (by simp [eventWrites]))
  have hpart : byteAt (layoutEvent c base f g) c.offPartition = g.partition := hbytes _ _ (by simp [eventWrites])
  have hzh : byteAt (layoutEvent c base f g) c.offZone = bcdByte (g.zone / 100) := hbytes _ _ (by simp [eventWrites])
  have hzl : byteAt (layoutEvent c base f g) (c.offZone + 1) = bcdByte (g.zone % 100) :=
    hbytes _ _ (by simp [eventWrites])
  simp only [parseEvent, hzh, hzl, zoneOf_bcdBytes hzone, hcode, eventCodeOk_iff.mpr hlead, if_true, haccount, hpart,
    commonFields_of_bytes (fun k v h => hbytes k v (List.mem_append_left _ h)) htrailer]

/-- Settles O19: every byte of the layout reads back, and the fields are concatenations of them. -/
theorem eventFrameDecodesToItsFields : Obligations.EventFrameDecodesToItsFields := by
  intro base f g s h hl hnodup hlead hzone
  rw [(exec_eventRows h (by rw [layoutEvent_length, hl])).1, parseEvent_layoutEvent f h.2.1 hl hnodup hlead hzone]

/-- Settles O20: the common fields and the trailer read back as for an event. -/
theorem heartbeatFrameDecodesToItsFields : Obligations.HeartbeatFrameDecodesToItsFields := by
  intro base f s h hl hnodup
  rw [(exec_heartbeatRows h (by rw [layoutHeartbeat_length, hl])).1, parseHeartbeat_layoutHeartbeat f h.2.1 hl hnodup]

end Sys2Proof.Proofs
end


section
/-! PROOFS. Unit CRC16 (spec/40_crc16.md): CRC.COMPUTE as CRC.INIT and CRC.BYTEs (R68), the laws of R75, and that no
byte is lost on the way (R70 to R72). -/

namespace Sys2Proof.Proofs

open Sys2Proof Sys2Proof.Machine Sys2Proof.Spec

/-! ## CRC.COMPUTE byte by byte -/

theorem crcFrom_cons (r : Half) (b : Byte) (bytes : List Byte) :
    crcFrom r (b :: bytes) = crcFrom (crcFold r b) bytes := rfl

theorem crcFrom_append (r : Half) (a b : List Byte) : crcFrom r (a ++ b) = crcFrom (crcFrom r a) b :=
  List.foldl_append

/-- The checksum of a whole sequence. -/
theorem crcRange_whole (bytes : List Byte) : crcRange bytes 0 bytes.length = crcFrom Config.crcInitValue bytes := by
  rw [crcRange, List.drop_zero, List.take_length]

/-- Writing its own register leaves an agent its circumstances and the configuration. -/
theorem standing_setCrc {s : State} (hs : Standing s) (v : Half) : Standing (s.setCrc v) := hs

/-- CRC.BYTEs after a value was loaded fold their bytes into it, in order. -/
theorem runOps_crcBytes {s : State} (hs : Standing s) (bytes : List Byte) (v : Half) :
    runOps (bytes.map .crcByte) (s.setCrc v) = some (s.setCrc (crcFrom v bytes)) := by
  induction bytes generalizing v with
  | nil => rfl
  | cons b bytes ih =>
    have hreg : (s.setCrc v).crcOf (s.setCrc v).issue.agent = ⟨v, true⟩ := by
      rw [crcOf_setCrc, State.setCrc_issue, if_pos rfl]
    have hb : exec (.crcByte b) (s.setCrc v) = .next (s.setCrc (crcFold v b)) := by
      rw [exec_crcByte (standing_setCrc hs v) (by rw [hreg]), hreg, setCrc_setCrc]
    rw [List.map_cons, runOps, hb, crcFrom_cons]
    exact ih (crcFold v b)

/-- Settles O5: after CRC.INIT the register holds a defined value, and each CRC.BYTE keeps it so. -/
theorem crcComputeIsInitThenBytes : Obligations.CrcComputeIsInitThenBytes := by
  intro bytes offset length s hs h
  refine ⟨_, ?_, exec_crcCompute hs (sourceChecks_given bytes s) h⟩
  rw [runOps, exec_crcInit hs]
  exact runOps_crcBytes hs _ _

/-! ## The laws of R75 -/

/-- Rounds that shift no bit out are shifts: the polynomial is not XORed in. -/
theorem crcRounds_of_small {n : Nat} {r : Half} (h : r.toNat * 2 ^ n < 65536) : crcRounds n r = r <<< n := by
  induction n generalizing r with
  | zero => rw [crcRounds, BitVec.shiftLeft_zero]
  | succ n ih =>
    have hpow : r.toNat * 2 ≤ r.toNat * 2 ^ (n + 1) := Nat.mul_le_mul_left _ (Nat.le_self_pow n.succ_ne_zero 2)
    have hround : crcRound r = r <<< 1 := by
      rw [crcRound, getLsbD_15_eq_decide, if_neg (by simp; omega)]
    have hnat : (r <<< 1).toNat = 2 * r.toNat := by rw [shiftLeft_one_toNat, Nat.mod_eq_of_lt (by omega)]
    rw [crcRounds, hround, ih (by rw [hnat]; calc
      2 * r.toNat * 2 ^ n = r.toNat * 2 ^ (n + 1) := by ring
      _ < 65536 := h), ← BitVec.shiftLeft_add, Nat.add_comm]

/-- The high byte folded into its own value leaves the low byte, shifted up. -/
theorem crcFold_hiByte (v : Half) : crcFold v (hiByte v) = (loByte v).setWidth 16 <<< 8 := by
  have hlow : v ^^^ ((hiByte v).setWidth 16 <<< 8) = (loByte v).setWidth 16 := by
    ext i hi
    by_cases hlt : i < 8
    · simp [hiByte, loByte, hlt, hi]
    · have hhigh : 8 + (i - 8) = i := by omega
      have hbyte : i - 8 < 8 := by omega
      simp [hiByte, loByte, hlt, hhigh, hbyte, hi]
  rw [crcFold, hlow, crcRounds_of_small (by simp; omega)]

/-- The low byte folded into its own value, shifted up, leaves nothing. -/
theorem crcFold_self (b : Byte) : crcFold (b.setWidth 16 <<< 8) b = 0#16 := by
  rw [crcFold, BitVec.xor_self]
  rfl

/-- The residue law: a value's own two bytes, high byte first, bring it to 0 (R75). -/
theorem crcFrom_own_bytes (v : Half) : crcFrom v [hiByte v, loByte v] = 0#16 := by
  rw [crcFrom_cons, crcFrom_cons, crcFold_hiByte, crcFold_self]
  rfl

/-- A sequence followed by its own checksum, high byte first, has checksum 0 (R75). -/
theorem crcRange_sealed (m : List Byte) :
    crcRange (m ++ [hiByte (crcRange m 0 m.length), loByte (crcRange m 0 m.length)]) 0 (m.length + 2) = 0#16 := by
  rw [crcRange_whole m]
  have hlen (a b : Byte) : m.length + 2 = (m ++ [a, b]).length := by simp
  rw [hlen, crcRange_whole, crcFrom_append, crcFrom_own_bytes]

/-- A sealed header has 18 bytes and checksum 0 (R75, R96). -/
theorem ackSeal_residue {header : List Byte} (h : header.length = 16) :
    (ackSeal header).length = 18 ∧ crcRange (ackSeal header) 0 18 = 0#16 := by
  have hres := crcRange_sealed header
  rw [h] at hres
  exact ⟨by simp [ackSeal, h], hres⟩

/-- An acknowledgement is a sealed header (R92). -/
theorem exists_header_of_ackOutcome {rx : RxBuf} {a : List Byte} (h : ackOutcome rx = .ok a) :
    ∃ header, header.length = 16 ∧ a = ackSeal header := by
  unfold ackOutcome at h
  split at h
  · cases h
  · rename_i header hh
    cases h
    exact ⟨header, headerOf_length hh, rfl⟩

/-- Settles O6: folding is a fold, and every acknowledgement ends in the checksum of its header. -/
theorem crcIncrementalAndResidueLaws : Obligations.CrcIncrementalAndResidueLaws := by
  refine ⟨fun a b => ?incremental, crcRange_sealed, fun rx a ha => ?acknowledgement⟩
  case incremental =>
    rw [← List.length_append, crcRange_whole, crcRange_whole, crcFrom_append]
    rfl
  case acknowledgement =>
    obtain ⟨header, hlen, rfl⟩ := exists_header_of_ackOutcome ha
    exact (ackSeal_residue hlen).2

/-! ## No byte is lost -/

/-- Bit 0 of a round's result tells whether the polynomial was XORed in. -/
theorem crcRound_bit_zero (r : Half) : (crcRound r).getLsbD 0 = r.getLsbD 15 := by
  unfold crcRound
  split <;> simp_all [Config.crcPoly]

theorem crcRound_injective : Function.Injective crcRound := by
  intro r r' h
  have htop : r.getLsbD 15 = r'.getLsbD 15 := by rw [← crcRound_bit_zero, h, crcRound_bit_zero]
  have hshift : r <<< 1 = r' <<< 1 := by
    unfold crcRound at h
    rw [htop] at h
    split at h
    · exact (BitVec.xor_left_inj _).mp h
    · exact h
  have hnat := congrArg BitVec.toNat hshift
  rw [shiftLeft_one_toNat, shiftLeft_one_toNat] at hnat
  rw [getLsbD_15_eq_decide, getLsbD_15_eq_decide, decide_eq_decide] at htop
  exact BitVec.eq_of_toNat_eq (by omega)

theorem crcRounds_injective (n : Nat) : Function.Injective (crcRounds n) := by
  induction n with
  | zero => exact fun _ _ h => h
  | succ n ih => exact ih.comp crcRound_injective

theorem crcFold_injective_register (b : Byte) : Function.Injective fun r => crcFold r b :=
  fun _ _ h => (BitVec.xor_left_inj _).mp (crcRounds_injective 8 h)

theorem crcFold_injective_byte (r : Half) : Function.Injective (crcFold r) := by
  intro b b' h
  have hhigh := (BitVec.xor_right_inj _).mp (crcRounds_injective 8 h)
  have hnat := congrArg BitVec.toNat hhigh
  rw [highByte_toNat, highByte_toNat] at hnat
  exact BitVec.eq_of_toNat_eq (by omega)

theorem crcFrom_injective_register (bytes : List Byte) : Function.Injective fun r => crcFrom r bytes := by
  induction bytes with
  | nil => exact fun _ _ h => h
  | cons b bytes ih => exact ih.comp (crcFold_injective_register b)

/-- Settles O7: the byte that differs gives two registers, and the bytes after it keep them apart. -/
theorem crcDetectsOneChangedByte : Obligations.CrcDetectsOneChangedByte := by
  intro m n b b' hne h
  have hwhole (x : Byte) : crcRange (m ++ x :: n) 0 (m.length + 1 + n.length)
      = crcFrom (crcFold (crcFrom Config.crcInitValue m) x) n := by
    rw [show m.length + 1 + n.length = (m ++ x :: n).length by simp; omega, crcRange_whole, crcFrom_append,
      crcFrom_cons]
  rw [hwhole b, hwhole b'] at h
  exact hne (crcFold_injective_byte _ (crcFrom_injective_register n h))

end Sys2Proof.Proofs
end


section
/-! PROOFS. Unit PARSER (spec/41_decode.md), continued: the rows of the classes and formats, what the outcome depends on
(R65, R79, R87, R91), and what every accepted packet meets (R89). -/

namespace Sys2Proof.Proofs

open Sys2Proof Sys2Proof.Machine Sys2Proof.Spec

/-! ## The rows of the classes and the formats -/

/-- An admitted configuration leaves room for the frames of both formats (R4). -/
theorem maxLen_ge {c : Cfg} (h : cfgValid c = true) : 30 ≤ c.maxLen := by
  simp only [cfgValid, Bool.and_eq_true, decide_eq_true_eq] at h
  exact h.2

theorem exec_rxClassAbsent {s : State} (h : RxReady s) :
    exec .rxClassAbsent s = .next { s with dec := some (.error .emptyPayload) } :=
  exec_of_checks h.2 (by simp [checks, rxRole, h.1])

theorem exec_rxClassBadLen {s : State} (h : RxReady s) {n : Half} (h18 : n.toNat ≠ 18) (h30 : n.toNat ≠ 30)
    (hmax : n.toNat ≤ s.cfg.maxLen) :
    exec (.rxClassBadLen n) s = .next { s with dec := some (.error (.invalidLength n.toNat)) } :=
  exec_of_checks h.2 (by simp [checks, rxRole, h.1, Instr.wf, Config.lenHb, Config.lenEv, h18, h30, hmax])

/-- DEC.DECODE in a state whose RXBUF was given a payload no longer than an event frame. -/
theorem exec_decDecode_payload {s : State} (h : RxReady s) (hstill : s.issue.rxStable = true) {p : List Byte}
    (hl : p.length ≤ 30) (now : TS) :
    exec .decDecode { s with rxbuf := ⟨true, p, now⟩ }
      = .next { s with rxbuf := ⟨true, p, now⟩, dec := some (decodeRx s.cfg ⟨true, p, now⟩) } :=
  exec_decDecode (s := { s with rxbuf := ⟨true, p, now⟩ }) h
    ⟨hstill, fun _ => hl.trans (maxLen_ge h.2.1)⟩

/-- Settles O14: every row answers what the parser finds in a payload of its class. -/
theorem parserRowsRunTheParser : Obligations.ParserRowsRunTheParser := by
  intro p now s h hstill
  refine ⟨exec_rxClassAbsent h, fun n => exec_rxClassBadLen h, fun h18 => ?heartbeat, fun h30 => ?event⟩
  case heartbeat =>
    refine ⟨_, exec_decDecode_payload h hstill (by omega) now, ?_⟩
    rw [decodeRx_heartbeat s.cfg rfl h18]
    exact exec_heartbeatRows h h18
  case event =>
    refine ⟨_, exec_decDecode_payload h hstill (by omega) now, ?_⟩
    rw [decodeRx_event s.cfg rfl h30]
    exact exec_eventRows h h30

/-! ## What the outcome depends on -/

/-- The parser reads `present` and, of a present payload, the bytes (R77, R87). -/
theorem decodeRx_congr (c : Cfg) {rx rx' : RxBuf} (hp : rx.present = rx'.present)
    (hd : rx.present = true → rx.data = rx'.data) : decodeRx c rx = decodeRx c rx' := by
  cases h : rx.present with
  | false => rw [decodeRx_absent c h, decodeRx_absent c (hp ▸ h)]
  | true => simp only [decodeRx, RxBuf.len, ← hp, ← hd h]

/-- Settles O15: the outcome is the parser's, a function of its operand and the configuration. -/
theorem decodeIsAFunctionOfItsOperand : Obligations.DecodeIsAFunctionOfItsOperand := by
  intro s s' h hr h' hr' hc hp hd
  refine ⟨_, exec_decDecode h hr, ?_⟩
  rw [hc, decodeRx_congr s'.cfg hp hd]
  exact exec_decDecode h' hr'

/-- An outcome with the captured trailer and the copy of the bytes replaced (R79, R90). -/
def recapture (trailer : Half) (raw : List Byte) : DecodeOutcome → DecodeOutcome
  | .ok (.heartbeat c) => .ok (.heartbeat { c with crc16 := trailer, raw := raw })
  | .ok (.event e) => .ok (.event { e with common := { e.common with crc16 := trailer, raw := raw } })
  | .error e => .error e

theorem blankTrailer_recapture (t : Half) (raw : List Byte) (d : DecodeOutcome) :
    blankTrailer (recapture t raw d) = blankTrailer d := by
  match d with
  | .ok (.heartbeat c) | .ok (.event e) | .error x => rfl

theorem blankRaw_recapture (t : Half) (raw raw' : List Byte) (d : DecodeOutcome) :
    blankRaw (recapture t raw d) = blankRaw (recapture t raw' d) := by
  match d with
  | .ok (.heartbeat c) | .ok (.event e) | .error x => rfl

section Agreement

variable {c : Cfg} {p q : List Byte}

/-- Fields of two bytes are read alike where the bytes agree. -/
theorem be16_congr {k : Nat} (h : p[k]? = q[k]?) (h' : p[k + 1]? = q[k + 1]?) : be16 p k = be16 q k := by
  rw [be16, be16, byteAt_congr h, byteAt_congr h']

/-- Where two sequences agree on the common fields, these are read alike but for the trailer and the copy. -/
theorem commonFields_congr (h : ∀ k ∈ [4, 5, 6, 7, 10, c.offTech], p[k]? = q[k]?) :
    commonFields c q = { commonFields c p with crc16 := be16 q (q.length - 2), raw := q } := by
  simp only [List.forall_mem_cons, List.not_mem_nil, false_imp_iff, implies_true, and_true] at h
  obtain ⟨hid0, hid1, hid2, hid3, hchannel, htech⟩ := h
  simp only [commonFields, be32, Config.offDevId, Config.offChannel, be16_congr hid0 hid1, be16_congr hid2 hid3,
    byteAt_congr hchannel, byteAt_congr htech]

/-- A heartbeat is parsed alike but for the trailer and the copy (R79 to R81). -/
theorem parseHeartbeat_recapture (h : ∀ k ∈ [4, 5, 6, 7, 10, c.offTech], p[k]? = q[k]?) :
    parseHeartbeat c q = recapture (be16 q (q.length - 2)) q (parseHeartbeat c p) := by
  rw [parseHeartbeat, parseHeartbeat, recapture, commonFields_congr h]

/-- The offsets of the fields of an event frame before the trailer (R51). -/
def eventFieldOffsets (c : Cfg) : List Nat :=
  [c.offAccount, c.offAccount + 1, c.offEventCode, c.offEventCode + 1, c.offPartition, c.offZone, c.offZone + 1]

/-- An event is parsed alike but for the trailer and the copy (R82 to R85). -/
theorem parseEvent_recapture (hcommon : ∀ k ∈ [4, 5, 6, 7, 10, c.offTech], p[k]? = q[k]?)
    (hevent : ∀ k ∈ eventFieldOffsets c, p[k]? = q[k]?) :
    parseEvent c q = recapture (be16 q (q.length - 2)) q (parseEvent c p) := by
  simp only [eventFieldOffsets, List.forall_mem_cons, List.not_mem_nil, false_imp_iff, implies_true, and_true] at hevent
  obtain ⟨hacc, hacc', hcode, hcode', hpart, hzone, hzone'⟩ := hevent
  simp only [parseEvent, ← be16_congr hacc hacc', ← be16_congr hcode hcode', ← byteAt_congr hpart,
    ← byteAt_congr hzone, ← byteAt_congr hzone', commonFields_congr hcommon]
  split
  · rfl
  · split <;> rfl

end Agreement

theorem eventOffsets_eq (c : Cfg) :
    eventOffsets c = [4, 5, 6, 7, 10, c.offTech] ++ eventFieldOffsets c ++ [28, 29] := rfl

theorem heartbeatOffsets_eq (c : Cfg) : heartbeatOffsets c = [4, 5, 6, 7, 10, c.offTech] ++ [16, 17] := rfl

/-- Frames that agree on every field of an event are parsed alike but for the copy (R65, R91). -/
theorem blankRaw_parseEvent {c : Cfg} {p q : List Byte} (hp : p.length = 30) (hq : q.length = 30)
    (h : ∀ k ∈ eventOffsets c, p[k]? = q[k]?) : blankRaw (parseEvent c p) = blankRaw (parseEvent c q) := by
  rw [eventOffsets_eq, List.forall_mem_append, List.forall_mem_append] at h
  obtain ⟨⟨hcommon, hevent⟩, htrailer⟩ := h
  have ht : be16 p 28 = be16 q 28 := be16_congr (htrailer 28 (by simp)) (htrailer 29 (by simp))
  rw [parseEvent_recapture (p := p) (q := p) (fun _ _ => rfl) (fun _ _ => rfl), parseEvent_recapture hcommon hevent,
    hp, hq, ht]
  exact blankRaw_recapture _ _ _ _

/-- Frames that agree on every field of a heartbeat are parsed alike but for the copy (R65, R91). -/
theorem blankRaw_parseHeartbeat {c : Cfg} {p q : List Byte} (hp : p.length = 18) (hq : q.length = 18)
    (h : ∀ k ∈ heartbeatOffsets c, p[k]? = q[k]?) : blankRaw (parseHeartbeat c p) = blankRaw (parseHeartbeat c q) := by
  rw [heartbeatOffsets_eq, List.forall_mem_append] at h
  obtain ⟨hcommon, htrailer⟩ := h
  have ht : be16 p 16 = be16 q 16 := be16_congr (htrailer 16 (by simp)) (htrailer 17 (by simp))
  rw [parseHeartbeat_recapture (p := p) (q := p) (fun _ _ => rfl), parseHeartbeat_recapture hcommon, hp, hq, ht]
  exact blankRaw_recapture _ _ _ _

/-- Settles O18: the rows answer what the parser finds, which differs in the copy only. -/
theorem unclaimedBytesAreIgnored : Obligations.UnclaimedBytesAreIgnored := by
  intro p q s h
  exact ⟨fun hp hq hagree => ⟨_, _, blankRaw_parseEvent hp hq hagree, (exec_eventRows h hp).1, (exec_eventRows h hq).1⟩,
    fun hp hq hagree =>
      ⟨_, _, blankRaw_parseHeartbeat hp hq hagree, (exec_heartbeatRows h hp).1, (exec_heartbeatRows h hq).1⟩⟩

/-- The common fields stand before the trailer of either format (R4). -/
theorem commonOffsets_lt {c : Cfg} (h : cfgValid c = true) : ∀ k ∈ [4, 5, 6, 7, 10, c.offTech], k < 16 := by
  simp only [cfgValid, Bool.and_eq_true, decide_eq_true_eq] at h
  simp only [List.forall_mem_cons, List.not_mem_nil, false_imp_iff, implies_true, and_true]
  omega

/-- The event fields stand before the trailer (R4). -/
theorem eventFieldOffsets_lt {c : Cfg} (h : cfgValid c = true) : ∀ k ∈ eventFieldOffsets c, k < 28 := by
  simp only [cfgValid, Bool.and_eq_true, decide_eq_true_eq] at h
  simp only [eventFieldOffsets, List.forall_mem_cons, List.not_mem_nil, false_imp_iff, implies_true, and_true]
  omega

/-- Settles O17: every field but the trailer stands before it, so the outcome of one frame is the other's with the
trailer and the copy replaced. -/
theorem trailerIsCapturedAndNeverChecked : Obligations.TrailerIsCapturedAndNeverChecked := by
  intro p q s h hlen hformat hagree
  have hcfg := h.2.1
  have hcommon : ∀ k ∈ [4, 5, 6, 7, 10, s.cfg.offTech], p[k]? = q[k]? := fun k hk =>
    hagree k (by have := commonOffsets_lt hcfg k hk; omega)
  rcases hformat with h18 | h30
  · refine ⟨_, _, ?_, by rw [if_pos h18]; exact (exec_heartbeatRows h h18).1,
      by rw [if_pos h18]; exact (exec_heartbeatRows h (hlen ▸ h18)).1⟩
    rw [parseHeartbeat_recapture hcommon, blankTrailer_recapture]
  · have hne : p.length ≠ 18 := by omega
    have hevent : ∀ k ∈ eventFieldOffsets s.cfg, p[k]? = q[k]? := fun k hk =>
      hagree k (by have := eventFieldOffsets_lt hcfg k hk; omega)
    refine ⟨_, _, ?_, by rw [if_neg hne]; exact (exec_eventRows h h30).1,
      by rw [if_neg hne]; exact (exec_eventRows h (hlen ▸ h30)).1⟩
    rw [parseEvent_recapture hcommon hevent, blankTrailer_recapture]

/-! ## What every accepted packet meets -/

theorem parseHeartbeat_valid {c : Cfg} {p : List Byte} (hl : p.length = 18) {q : DecodedPacket}
    (h : parseHeartbeat c p = .ok q) : PacketValid q := by
  cases h
  exact hl

/-- An instruction that goes on has operands of the types the spec gives them (R59, R61, R62). -/
theorem wf_of_next {i : Instr} {s t : State} (h : exec i s = .next t) : i.wf = true := by
  have hchecks := (exec_next.mp h).2.1
  have hneed : need i.wf .illFormedOperand ∈ checks i s → i.wf = true := fun hmem => need_eq_none.mp (hchecks _ hmem)
  cases i
  case evqPush | rxClassHeartbeat | rxClassEvent | rxClassBadLen | hb18 | ev30 | ackFlags08 =>
    exact hneed (List.mem_cons_self ..)
  all_goals rfl

/-- What an instruction that goes on accepts meets the data model, unless it was there (R89). -/
theorem dec_valid_of_next {i : Instr} {s t : State} {p : DecodedPacket} (h : exec i s = .next t)
    (hp : t.dec = some (.ok p)) : s.dec = some (.ok p) ∨ PacketValid p := by
  have hwf := wf_of_next h
  rw [effect_of_next h] at hp
  cases i
  case decDecode | rxFrame => exact .inr (decodeRx_valid (by simpa [effect] using hp))
  case rxClassHeartbeat f | hb18 f =>
    exact .inr (parseHeartbeat_valid (of_decide_eq_true hwf) (by simpa [effect] using hp))
  case rxClassEvent f | ev30 f =>
    obtain ⟨e, rfl, he⟩ := parseEvent_valid (c := s.cfg) (of_decide_eq_true hwf) (by simpa [effect] using hp)
    exact .inr he
  case rxClassAbsent | rxClassBadLen | reset => simp [effect] at hp
  all_goals exact .inl (by simpa [effect] using hp)

/-- The data model of an event on the numbers of the statements (R59). -/
theorem eventValid_iff {e : QueuedEvent} :
    eventValid e = true ↔ e.common.raw.length = 30 ∧ LeadOk e.fields.eventCode.toNat ∧ e.fields.zone ≤ 9999 := by
  simp only [eventValid, Bool.and_eq_true, decide_eq_true_eq, eventCodeOk_iff, and_assoc]
  rfl

/-- Settles O16: only the parser writes a packet, and what it accepts is valid. -/
theorem acceptedPacketsAreWellFormed : Obligations.AcceptedPacketsAreWellFormed := by
  intro i s t p h hp
  refine (dec_valid_of_next h hp).imp_right fun hvalid => ?_
  cases p with
  | heartbeat c => exact hvalid
  | event e => exact eventValid_iff.mp hvalid

end Sys2Proof.Proofs
end


section
/-! PROOFS. The renderings of R9 and R88 (spec/00_scope.md section 5): a numeral is read back to its number, so no
rendering loses anything. -/

namespace Sys2Proof.Proofs

open Sys2Proof Sys2Proof.Machine Sys2Proof.Spec

/-! ## Reading a numeral -/

/-- What a digit is worth. -/
def digitVal (c : Char) : Nat :=
  ['0', '1', '2', '3', '4', '5', '6', '7', '8', '9', 'A', 'B', 'C', 'D', 'E', 'F'].idxOf c

theorem digitVal_hexDigit {n : Nat} (h : n < 16) : digitVal (hexDigit n) = n := by
  interval_cases n <;> rfl

/-- The number a numeral stands for in a base, from the value of the digits before it. -/
def numeralFrom (base : Nat) (value : Nat) (cs : List Char) : Nat :=
  cs.foldl (fun v c => base * v + digitVal c) value

theorem numeralFrom_append (base value : Nat) (cs ds : List Char) :
    numeralFrom base value (cs ++ ds) = numeralFrom base (numeralFrom base value cs) ds := List.foldl_append

/-- One more digit. -/
theorem numeralFrom_snoc (base value : Nat) (cs : List Char) {n : Nat} (h : n < 16) :
    numeralFrom base value (cs ++ [hexDigit n]) = base * numeralFrom base value cs + n := by
  rw [numeralFrom_append]
  simp only [numeralFrom, List.foldl_cons, List.foldl_nil, digitVal_hexDigit h]

/-- Leading zeros are worth nothing. -/
theorem numeralFrom_zeros (base n : Nat) (cs : List Char) :
    numeralFrom base 0 (List.replicate n '0' ++ cs) = numeralFrom base 0 cs := by
  have hzeros : numeralFrom base 0 (List.replicate n '0') = 0 := by
    induction n with
    | zero => rfl
    | succ n ih => rw [List.replicate_succ', numeralFrom_append, ih]; rfl
  rw [numeralFrom_append, hzeros]

/-! ## Hexadecimal -/

@[simp] theorem hexChars_length (n v : Nat) : (hexChars n v).length = n := by
  induction n generalizing v with
  | zero => rfl
  | succ n ih => rw [hexChars, List.length_append, ih, List.length_singleton]

theorem numeralFrom_hexChars (n v : Nat) : numeralFrom 16 0 (hexChars n v) = v % 16 ^ n := by
  induction n generalizing v with
  | zero => rw [pow_zero, Nat.mod_one]; rfl
  | succ n ih =>
    rw [hexChars, numeralFrom_snoc _ _ _ (Nat.mod_lt _ (by decide)), ih, pow_succ', Nat.mod_mul, Nat.add_comm]

/-- `hex_N` is one-to-one on the values of `4 N` bits (R9). -/
theorem hexChars_injective {w n : Nat} (hw : 2 ^ w = 16 ^ n) {v v' : BitVec w}
    (h : hexChars n v.toNat = hexChars n v'.toNat) : v = v' := by
  have hread := congrArg (numeralFrom 16 0) h
  rw [numeralFrom_hexChars, numeralFrom_hexChars, ← hw, Nat.mod_eq_of_lt v.isLt, Nat.mod_eq_of_lt v'.isLt] at hread
  exact BitVec.eq_of_toNat_eq hread

/-! ## Decimal -/

theorem numeralFrom_decDigits {fuel v : Nat} (h : v < fuel) : numeralFrom 10 0 (decDigits fuel v) = v := by
  induction fuel generalizing v with
  | zero => omega
  | succ fuel ih =>
    unfold decDigits
    split
    · next hv => rw [hv]; rfl
    · rw [numeralFrom_snoc _ _ _ (by omega), ih (by omega), Nat.div_add_mod]

/-- A number below `10 ^ k` has at most `k` digits. -/
theorem decDigits_length_le {fuel v k : Nat} (h : v < 10 ^ k) : (decDigits fuel v).length ≤ k := by
  induction fuel generalizing v k with
  | zero => exact Nat.zero_le _
  | succ fuel ih =>
    unfold decDigits
    split
    · exact Nat.zero_le _
    · cases k with
      | zero => omega
      | succ k =>
        rw [List.length_append, List.length_singleton]
        exact Nat.succ_le_succ (ih (by rw [pow_succ] at h; omega))

/-- A number of at least `10 ^ k` has more than `k` digits. -/
theorem lt_decDigits_length {fuel v k : Nat} (hfuel : v < fuel) (h : 10 ^ k ≤ v) : k < (decDigits fuel v).length := by
  induction fuel generalizing v k with
  | zero => omega
  | succ fuel ih =>
    have hpos : v ≠ 0 := (lt_of_lt_of_le (by positivity) h).ne'
    rw [decDigits, if_neg hpos, List.length_append, List.length_singleton]
    cases k with
    | zero => omega
    | succ k => exact Nat.succ_lt_succ (ih (by omega) (by rw [pow_succ] at h; omega))

theorem dec3_length (v : Nat) : (dec3 v).length = max 3 (decDigits (v + 1) v).length := by
  rw [dec3, List.length_append, List.length_replicate]
  omega

/-- The padded numeral is read back to its number. -/
theorem numeralFrom_dec3 (v : Nat) : numeralFrom 10 0 (dec3 v) = v := by
  rw [dec3, numeralFrom_zeros, numeralFrom_decDigits (Nat.lt_add_one v)]

theorem dec3_length_of_small {v : Nat} (h : v ≤ 999) : (dec3 v).length = 3 := by
  have := decDigits_length_le (fuel := v + 1) (show v < 10 ^ 3 by omega)
  rw [dec3_length]
  omega

theorem dec3_length_of_large {v : Nat} (h : 999 < v) (h' : v ≤ 9999) : (dec3 v).length = 4 := by
  have hle := decDigits_length_le (fuel := v + 1) (show v < 10 ^ 4 by omega)
  have hlt := lt_decDigits_length (Nat.lt_add_one v) (show 10 ^ 3 ≤ v by omega)
  rw [dec3_length]
  omega

/-- Settles O22: every rendering is a numeral of a fixed width that reads back to its number. -/
theorem renderingsLoseNothing : Obligations.RenderingsLoseNothing :=
  ⟨fun _ => hexChars_length 8 _, fun _ _ => hexChars_injective rfl, fun _ => hexChars_length 4 _,
    fun _ _ => hexChars_injective rfl, fun _ => hexChars_length 4 _, fun _ _ => hexChars_injective rfl,
    fun _ => hexChars_length 2 _, fun _ _ => hexChars_injective rfl, fun _ => dec3_length_of_small,
    fun _ => dec3_length_of_large, fun z z' h => by
      rw [← numeralFrom_dec3 z, ← numeralFrom_dec3 z']
      exact congrArg _ h⟩

end Sys2Proof.Proofs
end


section
/-! PROOFS. Unit ACKGEN (spec/42_ack.md), continued: the frame ACK.BUILD and the ACK18 rows make (R62, R92 to R97). -/

namespace Sys2Proof.Proofs

open Sys2Proof Sys2Proof.Machine Sys2Proof.Spec

/-- R92: with a header the sealed frame goes to the outputs, and its checksum to ACKGEN's register. -/
theorem endAck_some (s : State) (header : List Byte) :
    s.endAck (some header) = { s with ack := some (.ok (ackSeal header)), ackCrc := ⟨ackSum header, true⟩ } := rfl

/-- R96: ACKGEN's register holds what the trailer of the sealed header says. -/
theorem ackSum_toNat {header : List Byte} (h : header.length = 16) :
    (ackSum header).toNat = be16Val (ackSeal header) 16 := by
  rw [ackSeal_checksum h, ← crcRange_toNat (by simp [ackSeal, h]), ackSeal, crcRange_append_left h.ge, ackSum]

/-- The header of an inbound frame, by its bytes (R94, R95). -/
def headerOfBytes (inb : Nat → Byte) : List Byte :=
  ackHeader (inb 11) [inb 4, inb 5, inb 6, inb 7, inb 8, inb 9, inb 10]

/-- The acknowledgement a header of inbound bytes ends in: the frame of R52 and its checksum in ACKGEN's register. -/
theorem endAck_headerOfBytes (s : State) (inb : Nat → Byte) :
    ∃ a v, AckOf inb a ∧ v.toNat = be16Val a 16
      ∧ s.endAck (some (headerOfBytes inb)) = { s with ack := some (.ok a), ackCrc := ⟨v, true⟩ } :=
  ⟨_, _, ackSeal_ackOf inb, ackSum_toNat rfl, endAck_some s _⟩

theorem headerOf_eq_headerOfBytes {rx : RxBuf} (hp : rx.present = true) (hl : 12 ≤ rx.data.length) :
    headerOf rx = some (headerOfBytes fun k => rx.data.getD k 0#8) := headerOf_long hp hl

/-- Settles O23: ACK.BUILD seals the header of its payload's bytes. -/
theorem ackBuildMakesTheFrame : Obligations.AckBuildMakesTheFrame := by
  intro s h hr hp hl
  rw [exec_ackBuild h hr, headerOf_eq_headerOfBytes hp hl]
  obtain ⟨a, v, hack, hv, heq⟩ := endAck_headerOfBytes s fun k => s.rxbuf.data.getD k 0#8
  exact ⟨a, v, hack, hv, congrArg _ heq⟩

/-! ## The ACK18 rows -/

/-- Two bytes are the bytes of the value they make (R31). -/
theorem bytes_of_toNat {v : Half} {a b : Byte} (h : v.toNat = 256 * a.toNat + b.toNat) :
    hiByte v = a ∧ loByte v = b := by
  have hb := b.isLt
  have ha := a.isLt
  constructor <;> apply BitVec.eq_of_toNat_eq <;> simp [hiByte, loByte, Nat.shiftRight_eq_div_pow] <;> omega

/-- The rows' operands are the inbound bytes 4 to 10 (R52). -/
theorem copiedBytes_of_toNat {inb : Nat → Byte} {device : DevId} {frameId : Half}
    (hdev : device.toNat = 16777216 * (inb 4).toNat + 65536 * (inb 5).toNat + 256 * (inb 6).toNat + (inb 7).toNat)
    (hid : frameId.toNat = 256 * (inb 8).toNat + (inb 9).toNat) :
    copiedBytes device frameId (inb 10) = [inb 4, inb 5, inb 6, inb 7, inb 8, inb 9, inb 10] := by
  have h6 := (inb 6).isLt
  have h7 := (inb 7).isLt
  have hhigh : (device.extractLsb' 16 16).toNat = 256 * (inb 4).toNat + (inb 5).toNat := by
    have h4 := (inb 4).isLt
    have h5 := (inb 5).isLt
    simp [Nat.shiftRight_eq_div_pow]
    omega
  have hlow : (device.extractLsb' 0 16).toNat = 256 * (inb 6).toNat + (inb 7).toNat := by
    simp
    omega
  obtain ⟨h4, h5⟩ := bytes_of_toNat hhigh
  obtain ⟨h6, h7⟩ := bytes_of_toNat hlow
  obtain ⟨h8, h9⟩ := bytes_of_toNat hid
  rw [copiedBytes, h4, h5, h6, h7, h8, h9]

theorem exec_ackFlags18 {s : State} (h : RxReady s) (device : DevId) (frameId : Half) (channel : Byte) :
    exec (.ackFlags18 device frameId channel) s
      = .next (s.endAck (some (ackHeader 0x00#8 (copiedBytes device frameId channel)))) :=
  exec_of_checks h.2 (by simp [checks, rxRole, h.1])

theorem exec_ackFlags08 {s : State} (h : RxReady s) {command : Byte} (hc : command ≠ 0x00#8) (device : DevId)
    (frameId : Half) (channel : Byte) :
    exec (.ackFlags08 command device frameId channel) s
      = .next (s.endAck (some (ackHeader command (copiedBytes device frameId channel)))) :=
  exec_of_checks h.2 (by simp [checks, rxRole, h.1, Instr.wf, hc])

/-- Settles O25: both rows seal the header of the inbound bytes, each for its own command bytes. -/
theorem ackRowsSelectTheFlags : Obligations.AckRowsSelectTheFlags := by
  intro inb device frameId s h hdev hid
  obtain ⟨a, v, hack, hv, heq⟩ := endAck_headerOfBytes s inb
  rw [headerOfBytes, ← copiedBytes_of_toNat hdev hid] at heq
  refine ⟨a, v, hack, hv, fun hzero => ?_, fun hne => ?_⟩
  · rw [exec_ackFlags18 h, ← heq, hzero]
  · rw [exec_ackFlags08 h hne, ← heq]

/-! ## What the acknowledgement depends on -/

/-- The header of a long payload is made of its bytes 4 to 11 (R97). -/
theorem headerOf_congr {rx rx' : RxBuf} (hp : rx.present = true) (hp' : rx'.present = true)
    (hl : 12 ≤ rx.data.length) (hl' : 12 ≤ rx'.data.length)
    (h : ∀ k, 4 ≤ k → k ≤ 11 → rx.data[k]? = rx'.data[k]?) : headerOf rx = headerOf rx' := by
  have hbyte : ∀ k, 4 ≤ k → k ≤ 11 → byteAt rx.data k = byteAt rx'.data k := fun k hlo hhi => byteAt_congr (h k hlo hhi)
  rw [headerOf_long hp hl, headerOf_long hp' hl', hbyte 4, hbyte 5, hbyte 6, hbyte 7, hbyte 8, hbyte 9, hbyte 10,
    hbyte 11] <;> decide

/-- Settles O26: ACK.BUILD reads its operand through the header only. -/
theorem ackDependsOnEightBytes : Obligations.AckDependsOnEightBytes := by
  intro s s' h hr h' hr' hp hp' hl hl' hagree
  refine ⟨_, _, exec_ackBuild h hr, exec_ackBuild h' hr', ?_⟩
  rw [headerOf_congr hp hp' hl hl' hagree, endAck_ackOutcome, endAck_ackOutcome]

end Sys2Proof.Proofs
end


section
/-! PROOFS. Unit EVQ (spec/43_fifo.md), continued: a push with room and a push without (R101), any number of pushes
(R106), a push beside a pop (R103). -/

namespace Sys2Proof.Proofs

open Sys2Proof Sys2Proof.Machine Sys2Proof.Spec

/-! ## One push -/

theorem push_of_room {s : State} (h : s.evqItems.length < s.capacity) (e : QueuedEvent) :
    s.push e = { s with evqItems := s.evqItems ++ [e], pushDiscards := some 0 } := by
  rw [push_eq, Nat.sub_eq_zero_of_le h, List.drop_zero]

/-- A push onto a full FIFO discards the head (R101). -/
theorem push_of_full {s : State} (hc : 1 ≤ s.capacity) (h : s.evqItems.length = s.capacity) (e : QueuedEvent) :
    s.push e = { s with evqItems := s.evqItems.tail ++ [e], pushDiscards := some 1 } := by
  have hone : s.evqItems.length + 1 - s.capacity = 1 := by omega
  rw [push_eq, hone, List.drop_append_of_le_length (by omega), List.drop_one]

/-- A push leaves the FIFO within the capacity, whatever it held (R99). -/
theorem push_length_le (s : State) (e : QueuedEvent) : (s.push e).evqItems.length ≤ s.capacity := by
  rw [push_eq, List.length_drop, List.length_append, List.length_singleton]
  omega

/-- Settles O28: with room nothing is discarded, and from a full FIFO the head. -/
theorem atMostOneDiscardPerPush : Obligations.AtMostOneDiscardPerPush := by
  intro e s he h hc hq
  refine ⟨_, exec_evqPush he h, push_length_le s e, fun hroom => ?_, fun hfull => ?_⟩
  · rw [push_of_room hroom]
    exact ⟨rfl, rfl⟩
  · rw [push_of_full hc hfull]
    exact ⟨rfl, rfl⟩

/-! ## Any number of pushes -/

/-- Pushes from within the capacity keep the most recent events and report the others (R106). -/
theorem pushAll_eq {es : List QueuedEvent} {s : State} (hv : ∀ e ∈ es, eventValid e = true) (h : PushReady s)
    (hq : s.evqItems.length ≤ s.capacity) :
    ∃ n, pushAll es s =
      some
        ({ s with
            evqItems := (s.evqItems ++ es).drop (s.evqItems.length + es.length - s.capacity)
            pushDiscards := n },
          s.evqItems.length + es.length - s.capacity) := by
  induction es generalizing s with
  | nil =>
    refine ⟨s.pushDiscards, ?_⟩
    rw [List.append_nil, List.length_nil, Nat.add_zero, Nat.sub_eq_zero_of_le hq]
    rfl
  | cons e es ih =>
    obtain ⟨he, hes⟩ := List.forall_mem_cons.mp hv
    obtain ⟨n, hn⟩ := ih hes (show PushReady (s.push e) from h) (push_length_le s e)
    refine ⟨n, ?_⟩
    rw [push_eq] at hn
    simp only [List.length_drop, List.length_append, List.length_singleton] at hn
    have hdrop : s.evqItems.length + 1 - s.capacity ≤ (s.evqItems ++ [e]).length := by simp
    have hsum : s.evqItems.length + 1 - s.capacity
        + (s.evqItems.length + 1 - (s.evqItems.length + 1 - s.capacity) + es.length - s.capacity)
        = s.evqItems.length + (e :: es).length - s.capacity := by rw [List.length_cons]; omega
    rw [← List.drop_append_of_le_length hdrop, List.drop_drop, hsum, List.append_assoc] at hn
    rw [pushAll, exec_evqPush he h]
    simp only [push_eq, hn, Option.map_some, Option.getD_some, hsum]
    rfl

/-- Settles O30: the case of an empty FIFO; one more push discards exactly when the FIFO is full. -/
theorem capacityPlusKPushes : Obligations.CapacityPlusKPushes := by
  intro es s hv h hc hempty
  obtain ⟨n, hn⟩ := pushAll_eq hv h (by rw [hempty]; exact Nat.zero_le _)
  simp only [hempty, List.nil_append, List.length_nil, Nat.zero_add] at hn
  refine ⟨_, hn, rfl, fun e he => ⟨_, exec_evqPush he h, ?_⟩⟩
  rw [push_eq]
  simp only [List.length_drop, Option.some.injEq]
  split <;> omega

/-! ## A push beside a pop -/

section EitherOrder

variable {e : QueuedEvent} {s : State} {rx wk : Issue}

/-- A pop after a push: neither operation changes what the contract of the other asks. -/
theorem exec_push_then_pop (he : eventValid e = true) (hpush : PushReady { s with issue := rx })
    (hpop : PopReady { s with issue := wk }) :
    exec (.evqPush e) { s with issue := rx } = .next (State.push { s with issue := rx } e)
      ∧ exec .evqTryPop { State.push { s with issue := rx } e with issue := wk }
        = .next (State.popHead { State.push { s with issue := rx } e with issue := wk }) :=
  ⟨exec_evqPush he hpush, exec_evqTryPop hpop⟩

/-- A push after a pop. -/
theorem exec_pop_then_push (he : eventValid e = true) (hpush : PushReady { s with issue := rx })
    (hpop : PopReady { s with issue := wk }) :
    exec .evqTryPop { s with issue := wk } = .next (State.popHead { s with issue := wk })
      ∧ exec (.evqPush e) { State.popHead { s with issue := wk } with issue := rx }
        = .next (State.push { State.popHead { s with issue := wk } with issue := rx } e) := by
  refine ⟨exec_evqTryPop hpop, exec_evqPush he ?_⟩
  simpa [PushReady, RxReady, Standing, Alone] using hpush

end EitherOrder

/-- Settles O32: each operation reads its own circumstances and the FIFO the other left. -/
theorem pushAndPopInEitherOrder : Obligations.PushAndPopInEitherOrder := by
  intro e s rx wk he hpush hpop hc
  obtain ⟨hpush1, hpop2⟩ := exec_push_then_pop he hpush hpop
  obtain ⟨hpop1, hpush2⟩ := exec_pop_then_push he hpush hpop
  refine ⟨fun hempty => ?empty, fun e1 es hcons hfull => ?full⟩
  case empty =>
    have hkept : 1 - s.capacity = 0 := Nat.sub_eq_zero_of_le hc
    refine ⟨⟨_, _, hpush1, hpop2, ?_⟩, ⟨_, _, hpop1, hpush2, ?_⟩⟩ <;> simp [trimHead_eq, hempty, hkept]
  case full =>
    have hlen : es.length + 1 = s.capacity := by rw [← hfull, hcons, List.length_cons]
    refine ⟨⟨_, _, hpop1, hpush2, ?_⟩, ⟨_, _, hpush1, hpop2, ?_⟩⟩ <;> simp [trimHead_eq, hcons, ← hlen]

end Sys2Proof.Proofs
end


section
/-! PROOFS. PRES.QUERY (R110), the pairs of outcomes of RX.FRAME (R116, R136) and the draining of the FIFO (R152). -/

namespace Sys2Proof.Proofs

open Sys2Proof Sys2Proof.Machine Sys2Proof.Spec

/-! ## PRES.QUERY -/

theorem exec_presQuery {id : DevId} {k : Nat} {s : State} (ha : s.issue.agent = .qr k) (hs : Standing s) :
    exec (.presQuery id) s = .next (s.setQry k (s.answerQuery id)) := by
  rw [exec_of_checks hs (by simp [checks, ha, Agent.isReader]), effect, ha, Agent.reader]

theorem answerQuery_of_none {s : State} {id : DevId} (h : lookupKey s.presMap id.toNat = none) :
    s.answerQuery id = .absent := by rw [State.answerQuery, h]

theorem answerQuery_of_some {s : State} {id : DevId} {e : PresenceEntry} (h : lookupKey s.presMap id.toNat = some e) :
    s.answerQuery id = .present id e := by rw [State.answerQuery, h]

/-- Settles O34: the answer goes to the issuing reader's key, and to no other. -/
theorem queryAnswersTheEntry : Obligations.QueryAnswersTheEntry := by
  intro id k s ha hs
  have hread : lookupKey (s.setQry k (s.answerQuery id)).qry k = some (s.answerQuery id) := lookup_insert_same _ _ _
  refine ⟨_, exec_presQuery ha hs, fun hnone => ?_, fun e hsome => ?_, fun k' hk => lookup_insert_other _ _ hk, rfl⟩
  · rw [hread, answerQuery_of_none hnone]
  · rw [hread, answerQuery_of_some hsome]

/-! ## The outcomes of RX.FRAME -/

/-- A payload too short to be acknowledged is of neither format, so nothing of it is routed (R116). -/
theorem decodeRx_error_of_short (c : Cfg) {rx : RxBuf} (h : ackOutcome rx = .payloadTooShort) :
    ∃ x, decodeRx c rx = .error x := by
  by_cases hp : rx.present = true
  · have hl : rx.data.length < 12 := by
      by_contra hl
      obtain ⟨a, ha, -⟩ := ackOutcome_long hp (not_lt.mp hl)
      rw [h] at ha
      cases ha
    exact ⟨_, decodeRx_badLen c hp (by omega) (by omega)⟩
  · exact ⟨_, decodeRx_absent c (Bool.eq_false_iff.mpr hp)⟩

/-- Settles O39: both outcomes are functions of RXBUF, by its length class. -/
theorem rxFrameOutcomePairs : Obligations.RxFrameOutcomePairs := by
  intro s h
  refine ⟨s.frame, _, exec_rxFrame h, State.frame_frameResult s, fun hp => ?absent, fun hp hl => ?short,
    fun hp hl => ?long, fun hp _ => decodeRx_badLen s.cfg hp, fun hp h18 => ?heartbeat, fun hp h30 => ?event,
    fun hshort => ?unsent⟩
  case absent => exact ⟨decodeRx_absent s.cfg hp, ackOutcome_short (.inl hp)⟩
  case short => exact ⟨decodeRx_badLen s.cfg hp (by omega) (by omega), ackOutcome_short (.inr hl)⟩
  case long => exact (ackOutcome_long hp hl).imp fun _ hack => hack.1
  case heartbeat => exact ⟨_, decodeRx_heartbeat s.cfg hp h18⟩
  case event =>
    have hcases := parseEvent_cases s.cfg s.rxbuf.data
    rwa [← decodeRx_event s.cfg hp h30] at hcases
  case unsent =>
    obtain ⟨x, hx⟩ := decodeRx_error_of_short s.cfg hshort
    rw [State.frame_evqItems, State.frame_presMap, hx]
    exact ⟨rfl, rfl⟩

/-! ## The worker -/

/-- A WK.STEP leaves WK its port and the circumstances. -/
theorem popReady_submit {s : State} (h : PopReady s) (a : SinkAnswer) : PopReady (s.submit a) := by
  simpa only [PopReady, Standing, Alone, State.submit_issue, State.submit_cfg] using h

/-- Settles O41: each WK.STEP takes one event, if there is one, whatever the sink answers. -/
theorem workerDrainsTheQueue : Obligations.WorkerDrainsTheQueue := by
  intro answers
  induction answers with
  | nil => exact fun s _ hlen => ⟨s, rfl, List.length_eq_zero_iff.mp (Nat.le_zero.mp hlen), rfl⟩
  | cons a answers ih =>
    intro s h hlen
    have hrest : (s.submit a).evqItems.length ≤ answers.length := by
      rw [State.submit_evqItems, List.length_tail]
      exact Nat.sub_le_of_le_add hlen
    obtain ⟨t, hrun, hempty, hmap⟩ := ih _ (popReady_submit h a) hrest
    refine ⟨t, ?_, hempty, hmap.trans (State.submit_presMap s a)⟩
    rw [List.map_cons, runOps, exec_wkStep h]
    exact hrun

end Sys2Proof.Proofs
end


section
/-! PROOFS. The contract (spec/60_exceptions.md R131, R137, spec/93 U1 to U7, U13): which check an operation fails, and
the name it is refused under. -/

namespace Sys2Proof.Proofs

open Sys2Proof Sys2Proof.Machine Sys2Proof.Spec

/-! ## Checks that fail -/

theorem need_eq_some {b : Bool} {r : Refusal} : need b r = some r ↔ b = false := by
  cases b <;> simp

theorem noneInProgress_eq_false {s : State} {ops : List Op} :
    noneInProgress s ops = false ↔ ∃ o ∈ ops, o ∈ s.issue.inProgress := by
  rw [← Bool.not_eq_true, noneInProgress_iff]
  push Not
  rfl

theorem rxRole_iff {s : State} : rxRole s = none ↔ s.issue.agent = .rx := by simp [rxRole]

theorem wkRole_iff {s : State} : wkRole s = none ↔ s.issue.agent = .wk := by simp [wkRole]

theorem rxRole_of_other {s : State} (h : s.issue.agent ≠ .rx) : rxRole s = some .wrongAgent :=
  need_eq_some.mpr (decide_eq_false h)

theorem rxStill_of_moving {s : State} (h : s.issue.rxStable = false) : rxStill s = some .rxbufChanged :=
  need_eq_some.mpr h

theorem rxFits_of_long {s : State} (hp : s.rxbuf.present = true) (h : s.cfg.maxLen < s.rxbuf.data.length) :
    rxFits s = some .payloadTooLong :=
  need_eq_some.mpr (by rw [hp, decide_eq_false (show ¬ s.rxbuf.len ≤ _ from Nat.not_le.mpr h)]; rfl)

/-- An RX.FRAME in progress counts as a push (R46, log 12). -/
theorem singlePush_of_push {s : State} (h : Op.evqPush ∈ s.issue.inProgress ∨ Op.rxFrame ∈ s.issue.inProgress) :
    singlePush s = some .concurrentPush :=
  need_eq_some.mpr (noneInProgress_eq_false.mpr (by simpa using h))

theorem singlePush_of_alone {s : State} (h : Alone s [.evqPush, .rxFrame]) : singlePush s = none :=
  need_eq_none.mpr (noneInProgress_iff.mpr h)

/-- A WK.STEP in progress counts as a pop (R46, log 12). -/
theorem singlePop_of_pop {s : State} (h : Op.evqTryPop ∈ s.issue.inProgress ∨ Op.wkStep ∈ s.issue.inProgress) :
    singlePop s = some .concurrentPop :=
  need_eq_some.mpr (noneInProgress_eq_false.mpr (by simpa using h))

/-- An RX.FRAME in progress counts as a writer of PRES (R112, R144, log 12). -/
theorem singleRecord_of_record {s : State}
    (h : Op.presRecHb ∈ s.issue.inProgress ∨ Op.rxFrame ∈ s.issue.inProgress) :
    singleRecord s = some .concurrentRecord :=
  need_eq_some.mpr (noneInProgress_eq_false.mpr (by simpa using h))

/-! ## The agent of a port -/

theorem isReader_iff {a : Agent} : a.isReader = true ↔ ∃ k, a = .qr k := by cases a <;> simp [Agent.isReader]

/-- Under a contract an operation goes on or is refused; there is no fault (R124). -/
theorem exec_next_or_refused (i : Instr) (s : State) : (∃ t, exec i s = .next t) ∨ ∃ r, exec i s = .refused r := by
  rw [exec_eq_commit, commit]
  cases firstRefusal (standing s ++ checks i s) with
  | none => exact .inl ⟨_, rfl⟩
  | some r => exact .inr ⟨r, rfl⟩

/-- What goes on was issued by an agent whose role allows it (R131). -/
theorem mayIssue_of_next {i : Instr} {s t : State} (h : exec i s = .next t) : MayIssue i s.issue.agent := by
  have hchecks := (exec_next.mp h).2.1
  have hrx : rxRole s ∈ checks i s → s.issue.agent = .rx := fun hmem => rxRole_iff.mp (hchecks _ hmem)
  have hwk : wkRole s ∈ checks i s → s.issue.agent = .wk := fun hmem => wkRole_iff.mp (hchecks _ hmem)
  cases i
  case crcInit | crcByte => trivial
  case crcCompute src offset length =>
    cases src with
    | given bytes => trivial
    | rxbuf => exact hrx (List.mem_cons_self ..)
  case evqTryPop | wkStep => exact hwk (List.mem_cons_self ..)
  case presQuery id =>
    have hreader : s.issue.agent.isReader = true := need_eq_none.mp (hchecks _ (List.mem_cons_self ..))
    exact isReader_iff.mp hreader
  case reset c =>
    have hhost : s.issue.agent = .host :=
      of_decide_eq_true (need_eq_none.mp (hchecks _ (List.mem_cons_self ..)))
    exact hhost
  all_goals exact hrx (by simp [checks])

/-- Settles O44: an operation that is not refused goes on, and then its agent may issue it. -/
theorem onlyTheAgentOfAPortUsesIt : Obligations.OnlyTheAgentOfAPortUsesIt := by
  intro i s hnot
  refine (exec_next_or_refused i s).resolve_left ?_
  rintro ⟨t, h⟩
  exact hnot (mayIssue_of_next h)

/-! ## Each violation under its own name -/

theorem refused_of_moving_rxbuf {s : State} (h : RxReady s) (hmoving : s.issue.rxStable = false) :
    exec .rxFrame s = .refused .rxbufChanged ∧ exec .decDecode s = .refused .rxbufChanged
      ∧ exec .ackBuild s = .refused .rxbufChanged
      ∧ ∀ offset length, exec (.crcCompute .rxbuf offset length) s = .refused .rxbufChanged := by
  have hrole := rxRole_iff.mpr h.1
  have hstill := rxStill_of_moving hmoving
  refine ⟨exec_refused h.2 ?_, exec_refused h.2 ?_, exec_refused h.2 ?_, fun _ _ => exec_refused h.2 ?_⟩ <;>
    simp [checks, sourceChecks, hrole, hstill]

theorem refused_of_long_rxbuf {s : State} (h : RxReady s) (hstable : s.issue.rxStable = true)
    (hp : s.rxbuf.present = true) (hlong : s.cfg.maxLen < s.rxbuf.data.length) :
    exec .decDecode s = .refused .payloadTooLong ∧ exec .ackBuild s = .refused .payloadTooLong
      ∧ exec .rxFrame s = .refused .payloadTooLong
      ∧ ∀ offset length, exec (.crcCompute .rxbuf offset length) s = .refused .payloadTooLong := by
  have hrole := rxRole_iff.mpr h.1
  have hstill := rxStill_iff.mpr hstable
  have hfits := rxFits_of_long hp hlong
  refine ⟨exec_refused h.2 ?_, exec_refused h.2 ?_, exec_refused h.2 ?_, fun _ _ => exec_refused h.2 ?_⟩ <;>
    simp [checks, sourceChecks, hrole, hstill, hfits, hp]

/-- RX.FRAME reads its RXBUF before the checks on the two stores. -/
theorem rxFrame_checks_of_ready {s : State} (h : RxReady s) (hr : RxbufReady s) :
    checks .rxFrame s = [none, none, none, singlePush s, singleRecord s] := by
  obtain ⟨hstill, hfits⟩ := rxbufReady_iff.mpr hr
  rw [checks, rxRole_iff.mpr h.1, hstill, hfits]

/-- Settles O45: with everything else as the contract asks, the violated check is the first that fails. -/
theorem contractViolationsAreRefused : Obligations.ContractViolationsAreRefused := by
  refine ⟨fun bytes offset length s hs hrange => ?range, fun e s he h hbusy => ?push, fun s h hr hbusy => ?framePush,
    fun s ha hs hbusy => ?pop, fun id now s hs hne => ?agent, fun id now s h hbusy => ?record,
    fun s h hr halone hbusy => ?frameRecord, fun s h => refused_of_moving_rxbuf h,
    fun s h hstable hp offset length => ?absent, fun c s ha hs hbusy => ?reset, fun s h => refused_of_long_rxbuf h,
    fun s ha hs hidle => ?capacity⟩
  case range => exact exec_crcCompute_refused hs (sourceChecks_given bytes s) hrange
  case push => exact exec_refused h.2 (by simp [checks, Instr.wf, he, rxRole_iff.mpr h.1, singlePush_of_push hbusy])
  case framePush => exact exec_refused h.2 (by simp [rxFrame_checks_of_ready h hr, singlePush_of_push hbusy])
  case pop =>
    constructor
    · exact exec_refused hs (by simp [checks, wkRole_iff.mpr ha, singlePop_of_pop hbusy])
    · exact fun a => exec_refused hs (by simp [checks, wkRole_iff.mpr ha, singlePop_of_pop hbusy])
  case agent => exact exec_refused hs (by simp [checks, rxRole_of_other hne])
  case record => exact exec_refused h.2 (by simp [checks, rxRole_iff.mpr h.1, singleRecord_of_record hbusy])
  case frameRecord =>
    exact exec_refused h.2 (by
      simp [rxFrame_checks_of_ready h hr, singlePush_of_alone halone, singleRecord_of_record (.inl hbusy)])
  case absent =>
    exact exec_refused h.2 (by simp [checks, sourceChecks, rxRole_iff.mpr h.1, rxStill_iff.mpr hstable, hp])
  case reset => exact exec_refused hs (by simp [checks, ha, List.isEmpty_eq_false_iff.mpr hbusy])
  case capacity => exact exec_refused hs (by simp [checks, ha, hidle])

/-- Settles O46: the only check of CRC.BYTE's own (U13). -/
theorem crcByteBeforeInitIsRefused : Obligations.CrcByteBeforeInitIsRefused := fun b s hs hundefined =>
  exec_refused hs (by simp [checks, hundefined])

/-- Settles O56: what every operation stands under is checked first, in this order. -/
theorem noOperationGoesOnOutsideTheConfiguration : Obligations.NoOperationGoesOnOutsideTheConfiguration := by
  intro i s
  simp only [exec_eq_commit, commit_refused, standing]
  refine ⟨fun hcfg => ?_, fun hcfg hlayout => ?_, fun hcfg hlayout hcrc => ?_, fun hcfg hlayout hcrc hreset => ?_⟩
  · simp [hcfg]
  · simp [hcfg, hlayout]
  · simp [hcfg, hlayout, hcrc]
  · have hbusy : noneInProgress s [.reset] = false := noneInProgress_eq_false.mpr (by simpa using hreset)
    simp [hcfg, hlayout, hcrc, hbusy]

end Sys2Proof.Proofs
end


section
/-! PROOFS. What every instruction leaves alone (R15, R19 to R21, R26, R28), and the state RESET leaves (R27, R140). -/

namespace Sys2Proof.Proofs

open Sys2Proof Sys2Proof.Machine Sys2Proof.Spec

/-! ## The fields an effect leaves alone -/

section Effects

variable (i : Instr) (s : State)

@[simp] theorem effect_cfg : (effect i s).cfg = s.cfg := by cases i <;> simp [effect]

@[simp] theorem effect_issue : (effect i s).issue = s.issue := by cases i <;> simp [effect]

@[simp] theorem effect_inbox : (effect i s).inbox = s.inbox := by cases i <;> simp [effect]

variable {i}

theorem effect_capacity (h : isReset i = false) : (effect i s).capacity = s.capacity := by
  cases i
  case reset => cases h
  all_goals simp [effect]

theorem effect_rxbuf (h : isReset i = false) : (effect i s).rxbuf = s.rxbuf := by
  cases i
  case reset => cases h
  all_goals simp [effect]

theorem effect_evqItems_of_untouched (h : touchesQueue i = false) : (effect i s).evqItems = s.evqItems := by
  cases i
  case evqPush | evqTryPop | rxFrame | wkStep | reset => cases h
  all_goals simp [effect]

theorem effect_presMap_of_untouched (h : touchesPresence i = false) : (effect i s).presMap = s.presMap := by
  cases i
  case presRecHb | rxFrame | reset => cases h
  all_goals simp [effect]

end Effects

/-- The routing step of RX.FRAME changes one store at most (R28, R114). -/
theorem route_one_store (s : State) (d : DecodeOutcome) :
    (s.route d).evqItems = s.evqItems ∨ (s.route d).presMap = s.presMap := by
  match d with
  | .ok (.event e) => exact .inr rfl
  | .ok (.heartbeat c) => exact .inl rfl
  | .error x => exact .inl rfl

/-- RX.FRAME is the one instruction but RESET that may change either store. -/
theorem untouched_or_rxFrame {i : Instr} (h : isReset i = false) :
    touchesQueue i = false ∨ touchesPresence i = false ∨ i = .rxFrame := by
  cases i
  case reset => cases h
  case rxFrame => exact .inr (.inr rfl)
  case evqPush | evqTryPop | wkStep => exact .inr (.inl rfl)
  all_goals exact .inl rfl

/-- Settles O49: RX.FRAME changes what its routing step changes, every other instruction touches one store at most. -/
theorem atMostOneStoreChanges : Obligations.AtMostOneStoreChanges := by
  intro i s t h
  rw [effect_of_next h]
  refine ⟨effect_evqItems_of_untouched s, effect_presMap_of_untouched s, fun hr => ?_⟩
  rcases untouched_or_rxFrame hr with hq | hp | rfl
  · exact .inl (effect_evqItems_of_untouched s hq)
  · exact .inr (effect_presMap_of_untouched s hp)
  · simpa [effect] using route_one_store s (decodeRx s.cfg s.rxbuf)

/-- Settles O50: no effect writes these fields, and RESET alone the last two. -/
theorem configurationAndOperandsAreFixed : Obligations.ConfigurationAndOperandsAreFixed := by
  intro i s t h
  rw [effect_of_next h]
  exact ⟨effect_cfg i s, effect_issue i s, effect_inbox i s, fun hr => ⟨effect_capacity s hr, effect_rxbuf s hr⟩⟩

/-! ## After RESET -/

/-- Settles O43: the restarted state has both stores empty and no output; the circumstances of the first pop and of a
first query are those asked for before the RESET. -/
theorem nothingIsLeftAfterReset : Obligations.NothingIsLeftAfterReset := by
  intro c s h
  refine ⟨_, exec_reset h, rfl, rfl, rfl, rfl, rfl, rfl, rfl, rfl, fun _ => rfl, rfl, rfl, rfl, fun _ => rfl, rfl,
    fun wk hwk => ?firstPop, fun qr k id hqr hs => ?firstQuery⟩
  case firstPop => exact ⟨_, exec_evqTryPop hwk, rfl⟩
  case firstQuery =>
    refine ⟨_, exec_presQuery hqr hs, ?_⟩
    rw [State.setQry_qry, lookup_insert_same, answerQuery_of_none rfl]

/-- Settles O48: the reset state has nothing in it that could fail an invariant. -/
theorem resetMeetsTheInvariants : Obligations.ResetMeetsTheInvariants where
  capacity_pos := by decide
  bounded := Nat.zero_le _
  events_valid := List.forall_mem_nil _
  pres_wf := rfl
  pres_online := List.forall_mem_nil _
  crc_wf := rfl
  qry_wf := rfl
  cfg_valid := by decide
  dec_valid := fun _ h => nomatch h
  ack_sealed := fun _ h => nomatch h
  pop_valid := fun _ h => nomatch h
  rx_stage := trivial
  wk_stage := fun _ h => nomatch h

end Sys2Proof.Proofs
end


section
/-! PROOFS. The transaction word (spec/30_encoding.md section 4) and one step of the block (spec/00_scope.md R10): an
equation per kind of input, and what a step that goes on was. -/

namespace Sys2Proof.Proofs

open Sys2Proof Sys2Proof.Machine Sys2Proof.Spec

/-! ## Decoding an encoding -/

/-- The length at the RXCLASS port is read back from its two bytes; only 18 and 30 are other classes (R61). -/
theorem decodeClass_lenWord {n : Half} (h18 : n.toNat ≠ 18) (h30 : n.toNat ≠ 30) (l : Lanes) :
    decodeClass true (lenWord n) l = .ok (.rxClassBadLen n) := by
  have h18' : n ≠ 0x0012#16 := fun h => h18 (h ▸ rfl)
  have h30' : n ≠ 0x001E#16 := fun h => h30 (h ▸ rfl)
  simp [decodeClass, lenWord, hi_append_lo, h18', h30']

theorem decodeFrame_heartbeat {f : List Byte} (h : f.length = 18) : decodeFrame f = .ok (.hb18 f) := if_pos h

theorem decodeFrame_event {f : List Byte} (h : f.length = 30) : decodeFrame f = .ok (.ev30 f) := by
  simp [decodeFrame, h, Config.lenHb, Config.lenEv]

/-- Settles O53: the word names the instruction and the lanes carry its operands; a length and a frame are their own
word. -/
theorem decodeOfEncodeIsTheInstruction : Obligations.DecodeOfEncodeIsTheInstruction := by
  intro i hwf
  cases i
  case rxClassBadLen n =>
    simp only [Instr.wf, Bool.and_eq_true, decide_eq_true_eq] at hwf
    exact decodeClass_lenWord hwf.1 hwf.2 .idle
  case hb18 f => exact decodeFrame_heartbeat (of_decide_eq_true hwf)
  case ev30 f => exact decodeFrame_event (of_decide_eq_true hwf)
  case ackFlags08 command device frameId channel => exact if_neg (of_decide_eq_true hwf)
  all_goals rfl

/-- Settles O54: the decoder computes each row of the table. -/
theorem tableWordsAreTheOperations : Obligations.TableWordsAreTheOperations := by
  refine ⟨rfl, rfl, rfl, rfl, rfl, ⟨_, rfl⟩, rfl, ⟨_, rfl⟩, rfl, rfl, ⟨_, rfl⟩, rfl, rfl, rfl, rfl, rfl, ?_⟩
  exact ⟨rfl, rfl, rfl, rfl⟩

/-! ## One step, by its input -/

section Step

variable {s : State} {rest : List Input}

theorem step_idle (h : s.inbox = []) : step s = .next s := by rw [step, h]

theorem step_deliver {rx : RxBuf} (h : s.inbox = .deliver rx :: rest) : step s = s.deliver rx rest := by rw [step, h]

theorem step_rxTurn (h : s.inbox = .rxTurn :: rest) : step s = State.rxTurn { s with inbox := rest } := by
  rw [step, h]

theorem step_wkTurn {a : SinkAnswer} (h : s.inbox = .wkTurn a :: rest) :
    step s = State.wkTurn { s with inbox := rest } a := by rw [step, h]

theorem step_busy {issue : Issue} {x : Wire} (h : s.inbox = .request issue x :: rest)
    (hbusy : s.busy issue.agent = true) : step s = .refused .agentBusy := by
  simp only [step, h, hbusy, if_true]

theorem step_undecodable {issue : Issue} {x : Wire} {r : DecodeReject} (h : s.inbox = .request issue x :: rest)
    (hidle : s.busy issue.agent = false) (hx : decode x = .error r) : step s = .refused .undecodable := by
  simp only [step, h, hidle, Bool.false_eq_true, if_false, hx]

theorem step_request {issue : Issue} {x : Wire} {i : Instr} (h : s.inbox = .request issue x :: rest)
    (hidle : s.busy issue.agent = false) (hx : decode x = .ok i) : step s = exec i (s.takeRequest issue rest) := by
  simp only [step, h, hidle, Bool.false_eq_true, if_false, hx]

/-- Between two datagrams RXBUF may be written. -/
theorem deliver_waiting (h : s.rxStage = .waiting) (rx : RxBuf) :
    s.deliver rx rest = .next (s.takeDelivery rx rest) := by
  rw [State.deliver, rxRunning_iff.mpr h]
  rfl

theorem deliver_running (h : s.rxStage ≠ .waiting) (rx : RxBuf) : s.deliver rx rest = .refused .rxbufChanged := by
  have hrun : s.rxRunning ≠ [] := fun hnil => h (rxRunning_iff.mp hnil)
  rw [State.deliver, List.isEmpty_eq_false_iff.mpr hrun]
  rfl

theorem busy_of_rxStage (h : s.rxStage ≠ .waiting) : s.busy .rx = true := by
  have hrun : s.rxRunning ≠ [] := fun hnil => h (rxRunning_iff.mp hnil)
  simp [State.busy, hrun]

theorem busy_of_wkStage (h : s.wkStage ≠ .polling) : s.busy .wk = true := by
  have hrun : s.wkRunning ≠ [] := fun hnil => h (wkRunning_iff.mp hnil)
  simp [State.busy, hrun]

/-- Everything a step that goes on can be: of nothing, a delivery between two datagrams, a turn, or a transaction. -/
inductive StepCases (s t : State) : Prop
  | idle (inbox : s.inbox = []) (same : t = s)
  | deliver (rx : RxBuf) (rest : List Input) (inbox : s.inbox = .deliver rx :: rest) (waiting : s.rxStage = .waiting)
      (taken : t = s.takeDelivery rx rest)
  | rxTurn (rest : List Input) (inbox : s.inbox = .rxTurn :: rest)
      (turn : State.rxTurn { s with inbox := rest } = .next t)
  | wkTurn (a : SinkAnswer) (rest : List Input) (inbox : s.inbox = .wkTurn a :: rest)
      (turn : State.wkTurn { s with inbox := rest } a = .next t)
  | request (issue : Issue) (x : Wire) (rest : List Input) (i : Instr) (inbox : s.inbox = .request issue x :: rest)
      (decoded : decode x = .ok i) (runs : exec i (s.takeRequest issue rest) = .next t)

theorem step_cases {t : State} (h : step s = .next t) : StepCases s t := by
  match hin : s.inbox with
  | [] =>
    rw [step_idle hin] at h
    cases h
    exact .idle hin rfl
  | .deliver rx :: rest =>
    rw [step_deliver hin] at h
    by_cases hw : s.rxStage = .waiting
    · rw [deliver_waiting hw] at h
      cases h
      exact .deliver rx rest hin hw rfl
    · rw [deliver_running hw] at h
      cases h
  | .rxTurn :: rest => exact .rxTurn rest hin (by rw [← step_rxTurn hin, h])
  | .wkTurn a :: rest => exact .wkTurn a rest hin (by rw [← step_wkTurn hin, h])
  | .request issue x :: rest =>
    cases hb : s.busy issue.agent with
    | true =>
      rw [step_busy hin hb] at h
      cases h
    | false =>
      match hx : decode x with
      | .ok i => exact .request issue x rest i hin hx (by rw [← step_request hin hb hx, h])
      | .error r =>
        rw [step_undecodable hin hb hx] at h
        cases h

end Step

/-- Settles O52: the equations of a step, with the agents inside a sequence told by their stages. -/
theorem stepRunsTheDecodedInstruction : Obligations.StepRunsTheDecodedInstruction := by
  refine ⟨fun s => step_idle, fun s rx rest h => ⟨fun hw => ?_, fun hr => ?_⟩, fun s rest => step_rxTurn,
    fun s a rest => step_wkTurn, fun s issue x rest i => step_request, fun s issue x rest r => step_undecodable,
    fun s issue x rest h hbusy => step_busy h ?_⟩
  · rw [step_deliver h, deliver_waiting hw, State.takeDelivery]
  · rw [step_deliver h, deliver_running hr]
  · rcases hbusy with ⟨ha, hr⟩ | ⟨ha, hw⟩
    · rw [ha, busy_of_rxStage hr]
    · rw [ha, busy_of_wkStage hw]

end Sys2Proof.Proofs
end


section
/-! PROOFS. FIFO order in every run (R102, R30 I4): each input accounts for the events of the queue, and accounts of
successive inputs add up. -/

namespace Sys2Proof.Proofs

open Sys2Proof Sys2Proof.Machine Sys2Proof.Spec

/-! ## Accounts -/

/-- The events of a queue and those pushed behind it are, in this order, those that left and those still queued; what
was popped is among what left, and `discards` others are. -/
def Accounts (queue pushed popped : List QueuedEvent) (discards : Nat) (queue' : List QueuedEvent) : Prop :=
  ∃ out, queue ++ pushed = out ++ queue' ∧ popped.Sublist out ∧ out.length = popped.length + discards

theorem accounts_refl (queue : List QueuedEvent) : Accounts queue [] [] 0 queue :=
  ⟨[], by rw [List.append_nil, List.nil_append], List.Sublist.refl _, rfl⟩

theorem accounts_trans {q q' q'' pushed pushed' popped popped' : List QueuedEvent} {n n' : Nat}
    (h : Accounts q pushed popped n q') (h' : Accounts q' pushed' popped' n' q'') :
    Accounts q (pushed ++ pushed') (popped ++ popped') (n + n') q'' := by
  obtain ⟨out, hq, hsub, hlen⟩ := h
  obtain ⟨out', hq', hsub', hlen'⟩ := h'
  refine ⟨out ++ out', ?_, hsub.append hsub', ?_⟩
  · rw [← List.append_assoc, hq, List.append_assoc, hq', List.append_assoc]
  · simp only [List.length_append]
    omega

/-- A push accounts for its event and for the heads it discards (R99). -/
theorem accounts_push (s : State) (e : QueuedEvent) :
    Accounts s.evqItems [e] [] ((s.push e).pushDiscards.getD 0) (s.push e).evqItems := by
  rw [push_eq]
  refine ⟨_, (List.take_append_drop (s.evqItems.length + 1 - s.capacity) _).symm, List.nil_sublist _, ?_⟩
  simp

/-- A pop accounts for the head, if there is one (R100). -/
theorem accounts_pop (queue : List QueuedEvent) : Accounts queue [] queue.head?.toList 0 queue.tail := by
  cases queue with
  | nil => exact accounts_refl []
  | cons e es => exact ⟨[e], by simp, List.Sublist.refl _, rfl⟩

/-- What the pop outputs say was popped is the head of the queue. -/
theorem popped_toList (queue : List QueuedEvent) :
    ((some (queue.head?.elim PopOutcome.empty .event)).bind popEvent).toList = queue.head?.toList := by
  cases queue <;> rfl

/-! ## Each instruction -/

theorem accounts_rxFrame (s : State) :
    Accounts s.evqItems (pushedBy .rxFrame s) [] (discardsBy .rxFrame s.frame) s.frame.evqItems := by
  rw [State.frame_evqItems, discardsBy, State.frame_frameResult, pushedBy]
  match decodeRx s.cfg s.rxbuf with
  | .ok (.event e) => exact accounts_push s e
  | .ok (.heartbeat c) => exact accounts_refl _
  | .error x => exact accounts_refl _

theorem accounts_of_next {i : Instr} {s t : State} (hr : isReset i = false) (h : exec i s = .next t) :
    Accounts s.evqItems (pushedBy i s) (poppedBy i t) (discardsBy i t) t.evqItems := by
  rw [effect_of_next h]
  cases i
  case reset => cases hr
  case evqPush e => exact accounts_push s e
  case rxFrame => exact accounts_rxFrame s
  case evqTryPop =>
    rw [poppedBy, effect, State.popHead_pop, popped_toList, State.popHead_evqItems]
    exact accounts_pop _
  case wkStep a =>
    rw [poppedBy, effect, State.submit_pop, popped_toList, State.submit_evqItems]
    exact accounts_pop _
  all_goals
    rw [effect_evqItems_of_untouched s rfl]
    exact accounts_refl _

/-! ## Each input -/

/-- A turn of RX accounts for what its routing step pushes (R113). -/
theorem accounts_rxTurn {s t : State} (h : s.rxTurn = .next t) :
    Accounts s.evqItems (pushedByInput .rxTurn s) [] (discardsByInput .rxTurn s t) t.evqItems := by
  rcases rxTurn_cases h with ⟨hs, -, rfl⟩ | ⟨hs, -, -, -, rfl⟩ | ⟨d, hs, -, rfl⟩ | ⟨d, n, hs, -, -, rfl⟩ <;>
    simp only [pushedByInput, discardsByInput, hs]
  · exact accounts_refl _
  · simpa using accounts_refl s.evqItems
  · match d with
    | .ok (.event e) => exact accounts_push s.asRx e
    | .ok (.heartbeat c) => exact accounts_refl _
    | .error x => exact accounts_refl _
  · simpa using accounts_refl s.evqItems

/-- A turn of WK accounts for what its poll pops (R117). -/
theorem accounts_wkTurn {s t : State} {a : SinkAnswer} (h : s.wkTurn a = .next t) :
    Accounts s.evqItems [] (poppedByInput (.wkTurn a) s t) 0 t.evqItems := by
  rcases wkTurn_cases h with ⟨hs, -, rfl⟩ | ⟨e, hs, rfl⟩ <;> simp only [poppedByInput, hs]
  · rw [State.endPoll_pop, State.popHead_pop, popped_toList, State.endPoll_evqItems, State.popHead_evqItems]
    exact accounts_pop _
  · exact accounts_refl _

theorem accounts_input {s t : State} {x : Input} (hr : isResetInput x = false)
    (h : step { s with inbox := [x] } = .next t) :
    Accounts s.evqItems (pushedByInput x s) (poppedByInput x s t) (discardsByInput x s t) t.evqItems := by
  rcases step_cases h with ⟨hin, -⟩ | ⟨rx, rest, hin, -, rfl⟩ | ⟨rest, hin, hturn⟩ | ⟨a, rest, hin, hturn⟩ |
    ⟨issue, w, rest, i, hin, hw, hruns⟩ <;> cases hin
  · exact accounts_refl _
  · exact accounts_rxTurn (s := { s with inbox := [] }) hturn
  · exact accounts_wkTurn (s := { s with inbox := [] }) hturn
  · simp only [isResetInput, hw] at hr
    simp only [pushedByInput, poppedByInput, discardsByInput, hw]
    exact accounts_of_next (s := State.takeRequest { s with inbox := [.request issue w] } issue []) hr hruns

/-- Settles O31: by induction on the run, the accounts of its inputs add up. -/
theorem everyRunKeepsFifoOrder : Obligations.EveryRunKeepsFifoOrder := by
  intro s t pushed popped discards hrun
  induction hrun with
  | stop s => exact accounts_refl _
  | input x not_reset runs _ ih => exact accounts_trans (accounts_input not_reset runs) ih

end Sys2Proof.Proofs
end


section
/-! PROOFS. The invariants (R30 I1 to I3, R89, R75): every named update keeps them, so every effect and
every turn does. -/

namespace Sys2Proof.Proofs

open Sys2Proof Sys2Proof.Machine Sys2Proof.Spec

/-! ## Each update -/

section Updates

variable {s : State}

theorem inv_setCrc (h : s.Inv) (v : Half) : (s.setCrc v).Inv :=
  { h with crc_wf := insertKey_keysRise h.crc_wf _ _ }

theorem inv_setQry (h : s.Inv) (k : Nat) (q : QueryOutcome) : (s.setQry k q).Inv :=
  { h with qry_wf := insertKey_keysRise h.qry_wf _ _ }

theorem inv_recordHb (h : s.Inv) (id : DevId) (now : TS) : (s.recordHb id now).Inv :=
  { h with
    pres_wf := insertKey_wf h.pres_wf _ _
    pres_online := fun e he => (mem_insertKey he).elim (fun heq => heq ▸ rfl) (h.pres_online e) }

/-- What the parser writes is valid (R89). -/
theorem inv_endDecode (h : s.Inv) {d : DecodeOutcome} (hd : ∀ p, d = .ok p → PacketValid p) : (s.endDecode d).Inv := by
  rw [endDecode_eq]
  exact { h with dec_valid := fun p hp => hd p (Option.some.inj hp) }

/-- A sealed header has the residue law's checksum (R75). -/
theorem inv_endAck (h : s.Inv) {header : Option (List Byte)} (hlen : ∀ x, header = some x → x.length = 16) :
    (s.endAck header).Inv := by
  cases header with
  | none => exact { h with ack_sealed := fun f hf => nomatch hf }
  | some x =>
    refine { h with ack_sealed := fun f hf => ?_ }
    cases hf
    exact ackSeal_residue (hlen x rfl)

/-- A push leaves the queue within the capacity and adds a valid event (R30 I2, R59). -/
theorem inv_push (h : s.Inv) {e : QueuedEvent} (he : eventValid e = true) : (s.push e).Inv := by
  refine { h with bounded := push_length_le s e, events_valid := fun x hx => ?_ }
  rw [push_eq] at hx
  rcases List.mem_append.mp (List.mem_of_mem_drop hx) with hx | hx
  · exact h.events_valid x hx
  · exact List.mem_singleton.mp hx ▸ he

/-- What a pop returns was queued (R100). -/
theorem inv_popHead (h : s.Inv) : s.popHead.Inv := by
  match hq : s.evqItems with
  | [] =>
    rw [popHead_of_empty hq]
    exact { h with pop_valid := fun e he => nomatch he }
  | e :: es =>
    have hvalid := h.events_valid
    have hbound := h.bounded
    rw [hq] at hvalid hbound
    rw [popHead_of_cons hq]
    refine { h with
      bounded := (Nat.le_succ _).trans hbound
      events_valid := fun x hx => hvalid x (List.mem_cons_of_mem _ hx)
      pop_valid := fun x hx => ?_ }
    cases hx
    exact hvalid e (List.mem_cons_self ..)

theorem inv_submit (h : s.Inv) (a : SinkAnswer) : (s.submit a).Inv := by
  unfold State.submit
  split
  · exact { inv_popHead h with }
  · exact { inv_popHead h with }

/-- The routing step pushes or records what the parser accepted (R114). -/
theorem inv_route (h : s.Inv) {d : DecodeOutcome} (hd : ∀ e, d = .ok (.event e) → eventValid e = true) :
    (s.route d).Inv := by
  match d with
  | .ok (.event e) => exact inv_push h (hd e rfl)
  | .ok (.heartbeat c) => exact inv_recordHb h _ _
  | .error x => exact h

theorem inv_endFrame (h : s.Inv) (d : DecodeOutcome) (n : Nat) : (s.endFrame d n).Inv := { h with }

theorem inv_frame (h : s.Inv) : s.frame.Inv :=
  inv_endFrame
    (inv_endAck
      (inv_route (inv_endDecode h fun _ hp => decodeRx_valid hp) fun _ he => decodeRx_valid he)
      fun _ hx => headerOf_length hx)
    _ _

/-- RESET with an admissible capacity keeps the configuration and what reset meets (R139, R142). -/
theorem inv_restart (h : s.Inv) {c : Nat} (hc : 1 ≤ c) : (s.restart c).Inv :=
  { resetMeetsTheInvariants with capacity_pos := hc, bounded := Nat.zero_le _, cfg_valid := h.cfg_valid }

theorem inv_setRxStage (h : s.Inv) {x : RxStage} (hx : RxStageValid (s.setRxStage x)) : (s.setRxStage x).Inv :=
  { h with rx_stage := hx }

theorem inv_setWkStage (h : s.Inv) {x : WkStage} (hx : ∀ e, x = .submitting e → eventValid e = true) :
    (s.setWkStage x).Inv :=
  { h with wk_stage := hx }

end Updates

/-! ## Each instruction -/

theorem inv_of_next {i : Instr} {s t : State} (h : s.Inv) (hnext : exec i s = .next t) : t.Inv := by
  have hwf := wf_of_next hnext
  obtain ⟨-, hchecks, rfl⟩ := exec_next.mp hnext
  cases i
  case crcInit | crcByte | crcCompute => exact inv_setCrc h _
  case decDecode => exact inv_endDecode h fun _ hp => decodeRx_valid hp
  case ackBuild => exact inv_endAck h fun _ hx => headerOf_length hx
  case evqPush e => exact inv_push h hwf
  case evqTryPop => exact inv_popHead h
  case presRecHb id now => exact inv_recordHb h id now
  case presQuery id => exact inv_setQry h _ _
  case rxFrame => exact inv_frame h
  case wkStep a => exact inv_submit h a
  case reset c =>
    have hc : 1 ≤ resetCapacity c :=
      of_decide_eq_true (need_eq_none.mp (hchecks (need _ .zeroCapacity) (by simp [checks])))
    exact inv_restart h hc
  case rxClassAbsent | rxClassBadLen => exact { h with dec_valid := fun _ hp => nomatch hp }
  case rxClassHeartbeat f | hb18 f =>
    exact inv_endDecode h fun _ hp => parseHeartbeat_valid (of_decide_eq_true hwf) hp
  case rxClassEvent f | ev30 f =>
    refine inv_endDecode h fun p hp => ?_
    obtain ⟨e, rfl, he⟩ := parseEvent_valid (of_decide_eq_true hwf) hp
    exact he
  case ackFlags18 | ackFlags08 => exact inv_endAck h fun _ hx => Option.some.inj hx ▸ rfl

/-! ## Each turn -/

/-- RX holds the outcome of the datagram in RXBUF from its first step to its last (R47, R113). -/
theorem inv_rxTurn {s t : State} (h : s.Inv) (hnext : s.rxTurn = .next t) : t.Inv := by
  have hrx : s.asRx.Inv := { h with }
  rcases rxTurn_cases hnext with ⟨-, -, rfl⟩ | ⟨-, -, -, -, rfl⟩ | ⟨d, hs, hd, rfl⟩ | ⟨d, n, hs, -, -, rfl⟩
  · exact h
  · refine inv_setRxStage (inv_endDecode hrx fun _ hp => decodeRx_valid hp) ?_
    simp [RxStageValid]
  · refine inv_setRxStage (inv_route hrx hd) ?_
    have hstage := h.rx_stage
    simp only [RxStageValid, hs] at hstage
    simpa [RxStageValid] using hstage
  · exact inv_setRxStage (inv_endFrame (inv_endAck hrx fun _ hx => headerOf_length hx) d n) trivial

/-- WK holds the event it popped, which was queued (R117). -/
theorem inv_wkTurn {s t : State} {a : SinkAnswer} (h : s.Inv) (hnext : s.wkTurn a = .next t) : t.Inv := by
  have hwk : s.asWk.Inv := { h with }
  rcases wkTurn_cases hnext with ⟨-, -, rfl⟩ | ⟨e, -, rfl⟩
  · match hq : s.evqItems with
    | [] => exact { inv_popHead hwk with }
    | e :: es =>
      refine inv_setWkStage (inv_popHead hwk) fun x hx => ?_
      cases hx
      exact h.events_valid e (hq ▸ List.mem_cons_self ..)
  · exact inv_setWkStage (s := s.asWk.endSubmit e a) { hwk with } fun _ hx => nomatch hx

/-- Settles O47: a delivery comes between two datagrams, so RX holds no outcome of the one it replaces. -/
theorem everyStepKeepsTheInvariants : Obligations.EveryStepKeepsTheInvariants := by
  intro s t h hnext
  rcases step_cases hnext with ⟨-, rfl⟩ | ⟨rx, rest, -, hw, rfl⟩ | ⟨rest, -, hturn⟩ | ⟨a, rest, -, hturn⟩ |
    ⟨issue, w, rest, i, -, -, hruns⟩
  · exact h
  · exact { h with rx_stage := by simp [RxStageValid, hw] }
  · exact inv_rxTurn (s := { s with inbox := rest }) { h with } hturn
  · exact inv_wkTurn (s := { s with inbox := rest }) { h with } hturn
  · exact inv_of_next (s := s.takeRequest issue rest) { h with } hruns

end Sys2Proof.Proofs
end


section
/-! PROOFS. The sequencers step by step (R10, R113, R117, R119): turns with nothing between are the whole operation, and
RX's turns but its routing step commute with WK's. -/

namespace Sys2Proof.Proofs

open Sys2Proof Sys2Proof.Machine Sys2Proof.Spec

/-! ## The updates of a turn, as the fields they write -/

theorem popHead_eq (s : State) :
    s.popHead =
      { s with evqItems := s.evqItems.tail, pop := some (s.evqItems.head?.elim .empty .event) } := by
  match hq : s.evqItems with
  | [] => rw [popHead_of_empty hq, hq]; rfl
  | e :: es => rw [popHead_of_cons hq]; rfl

/-! ## The turns of RX as steps -/

section RxSteps

variable {s : State} {rest : List Input}

theorem step_rxTurn_wait (hin : s.inbox = .rxTurn :: rest) (hs : s.rxStage = .waiting) (hp : s.rxPending = false) :
    step s = .next { s with inbox := rest } := by
  simp [step_rxTurn hin, State.rxTurn, hs, hp]

theorem step_rxTurn_start (hin : s.inbox = .rxTurn :: rest) (hs : s.rxStage = .waiting) (hp : s.rxPending = true)
    (h : RxReady s.asRx) (hr : RxbufReady s.asRx) :
    step s = .next { s.asRx with
      dec := some (decodeRx s.cfg s.rxbuf), rxStage := .decoded (decodeRx s.cfg s.rxbuf), inbox := rest } := by
  rw [step_rxTurn hin, rxTurn_start (s := { s with inbox := rest }) hs hp h hr, endDecode_eq]
  rfl

theorem step_rxTurn_route {d : DecodeOutcome} (hin : s.inbox = .rxTurn :: rest) (hs : s.rxStage = .decoded d)
    (h : Standing s.asRx) (hv : ∀ e, d = .ok (.event e) → eventValid e = true) :
    step s = .next
      (State.route { s.asRx with rxStage := .routed d (routeDiscards s d), inbox := rest } d) := by
  rw [step_rxTurn hin, rxTurn_route (s := { s with inbox := rest }) hs h hv]
  match d with
  | .ok (.event e) | .ok (.heartbeat c) | .error x => rfl

theorem step_rxTurn_end {d : DecodeOutcome} {n : Nat} (hin : s.inbox = .rxTurn :: rest) (hs : s.rxStage = .routed d n)
    (h : RxReady s.asRx) (hr : RxbufReady s.asRx) :
    step s = .next
      ((State.endAck { s.asRx with rxStage := .waiting, inbox := rest } (headerOf s.rxbuf)).endFrame d n) := by
  rw [step_rxTurn hin, rxTurn_end (s := { s with inbox := rest }) hs h hr]
  cases headerOf s.rxbuf <;> rfl

end RxSteps

/-- The state of RX after its first two turns, from one in which it waited (R113). -/
def routedState (s : State) (d : DecodeOutcome) (rest : List Input) : State :=
  State.route { s.asRx with dec := some d, rxStage := .routed d (routeDiscards s d), inbox := rest } d

theorem rxReady_routed {s : State} (h : Standing s.asRx) (d : DecodeOutcome) (rest : List Input) :
    RxReady (routedState s d rest).asRx := by
  match d with
  | .ok (.event e) | .ok (.heartbeat c) | .error x => exact ⟨rfl, h⟩

theorem rxbufReady_routed {s : State} (h : RxbufReady s.asRx) (d : DecodeOutcome) (rest : List Input) :
    RxbufReady (routedState s d rest).asRx := by
  match d with
  | .ok (.event e) | .ok (.heartbeat c) | .error x => exact h

theorem frame_of_outcomes {s : State} {d : DecodeOutcome} {header : Option (List Byte)}
    (hd : decodeRx s.cfg s.rxbuf = d) (hx : headerOf s.rxbuf = header) :
    s.frame = ((State.route { s with dec := some d } d).endAck header).endFrame d (routeDiscards s d) := by
  rw [frame_eq_endFrame hd, hx]

/-- RX.FRAME's effect is that of its three turns. -/
theorem frame_eq_turns {s : State} {d : DecodeOutcome} {rest : List Input} (hs : s.rxStage = .waiting)
    (hd : decodeRx s.cfg s.rxbuf = d) (rest' : List Input) :
    State.frame { s.asRx with inbox := rest } =
      (State.endAck { (routedState s d rest').asRx with rxStage := .waiting, inbox := rest }
        (headerOf (routedState s d rest').rxbuf)).endFrame d (routeDiscards s d) := by
  obtain ⟨header, hx⟩ : ∃ header, headerOf s.rxbuf = header := ⟨_, rfl⟩
  have hx' : headerOf (routedState s d rest').rxbuf = header := by simp [routedState, hx]
  have hwaiting : s.asRx = { s.asRx with rxStage := .waiting } := by rw [← hs]; rfl
  rw [hx', hwaiting, frame_of_outcomes (s := { s.asRx with rxStage := .waiting, inbox := rest }) hd hx]
  cases header <;>
    match d with
    | .ok (.event e) | .ok (.heartbeat c) | .error x => rfl

/-- Settles O57: the three turns are DEC.DECODE, the routing step and ACK.BUILD, of which RX.FRAME is made. -/
theorem rxTurnsAreOneRxFramePerDatagram : Obligations.RxTurnsAreOneRxFramePerDatagram := by
  intro s rest hs
  refine ⟨fun hp h hin => ?_, fun hp hin => step_rxTurn_wait hin hs hp⟩
  have ⟨hrx, hbuf, _⟩ := h
  obtain ⟨d, hd⟩ : ∃ d, decodeRx s.cfg s.rxbuf = d := ⟨_, rfl⟩
  have hv : ∀ e, d = .ok (.event e) → eventValid e = true := fun e he => decodeRx_valid (hd.trans he)
  have hstart := step_rxTurn_start hin hs hp hrx hbuf
  rw [hd] at hstart
  have hroute := step_rxTurn_route
    (s := { s.asRx with dec := some d, rxStage := .decoded d, inbox := .rxTurn :: .rxTurn :: rest }) rfl rfl hrx.2 hv
  have hend := step_rxTurn_end (s := routedState s d (.rxTurn :: rest)) (rest := rest)
    (State.route_inbox _ d) (State.route_rxStage _ d) (rxReady_routed hrx.2 d _) (rxbufReady_routed hbuf d _)
  refine ⟨_, routedState s d (.rxTurn :: rest), _, hstart, hroute, hend, ?_, rfl, rfl, ?_, ?_, ?_, rfl⟩
  · rw [exec_rxFrame (s := { s.asRx with inbox := rest }) h, frame_eq_turns hs hd]
  · simp
  · simp
  · simp

/-! ## The turns of WK as steps -/

section WkSteps

variable {s : State} {rest : List Input} {a : SinkAnswer}

theorem step_wkTurn_poll_empty (hin : s.inbox = .wkTurn a :: rest) (hs : s.wkStage = .polling) (h : Standing s.asWk)
    (hq : s.evqItems = []) :
    step s = .next { s.asWk with pop := some .empty, sinkAnswer := none, sinkFailure := none, inbox := rest } := by
  rw [step_wkTurn hin, wkTurn_poll (s := { s with inbox := rest }) hs h,
    popHead_of_empty (s := State.asWk { s with inbox := rest }) hq]
  simp only [hq, State.endPoll, State.asWk_evqItems]
  rfl

theorem step_wkTurn_poll_event {e : QueuedEvent} {es : List QueuedEvent} (hin : s.inbox = .wkTurn a :: rest)
    (hs : s.wkStage = .polling) (h : Standing s.asWk) (hq : s.evqItems = e :: es) :
    step s = .next { s.asWk with
      evqItems := es, pop := some (.event e), wkStage := .submitting e, inbox := rest } := by
  rw [step_wkTurn hin, wkTurn_poll (s := { s with inbox := rest }) hs h,
    popHead_of_cons (s := State.asWk { s with inbox := rest }) hq]
  simp only [hq, State.endPoll]
  rfl

theorem step_wkTurn_answer {e : QueuedEvent} (hin : s.inbox = .wkTurn a :: rest) (hs : s.wkStage = .submitting e) :
    step s = .next { s.asWk with
      sinkAnswer := some a, sinkFailure := if a = .failure then some e else none, wkStage := .polling
      inbox := rest } := by
  rw [step_wkTurn hin, wkTurn_answer (s := { s with inbox := rest }) hs]
  cases a <;> rfl

end WkSteps

/-- Settles O58: the poll is EVQ.TRYPOP, and the turn after it takes the answer for what was popped. -/
theorem wkTurnsAreWkStep : Obligations.WkTurnsAreWkStep := by
  intro s a b rest hs h
  refine ⟨fun hq hin => ?empty, fun e es hq hin => ?event⟩
  case empty =>
    refine ⟨_, step_wkTurn_poll_empty hin hs h.2.1 hq, ?_⟩
    rw [exec_wkStep (s := { s.asWk with inbox := rest }) h, submit_of_empty (s := { s.asWk with inbox := rest }) hq]
  case event =>
    refine ⟨_, _, step_wkTurn_poll_event hin hs h.2.1 hq, step_wkTurn_answer rfl rfl, ?_, rfl⟩
    rw [exec_wkStep (s := { s.asWk with inbox := rest }) h, submit_of_cons (s := { s.asWk with inbox := rest }) hq]
    simp only [State.asWk_wkStage, hs]
    rfl

/-! ## RX's turns but its routing step beside WK's turns -/

theorem standing_asRx_congr {s t : State} (h : s.cfg = t.cfg) : Standing s.asRx ↔ Standing t.asRx :=
  (standing_turns h).trans (standing_turns rfl).symm

theorem standing_asWk_congr {s t : State} (h : s.cfg = t.cfg) : Standing s.asWk ↔ Standing t.asWk :=
  (standing_turns rfl).symm.trans (standing_turns h)

/-- A state with the fields RX's first and third step write taken from another. -/
def withRx (s r : State) : State :=
  { s with
    dec := r.dec, ack := r.ack, ackCrc := r.ackCrc, frameResult := r.frameResult, sender := r.sender
    rxPending := r.rxPending, rxStage := r.rxStage }

/-- A state with the fields WK's steps write taken from another. -/
def withWk (s w : State) : State :=
  { s with
    evqItems := w.evqItems, pop := w.pop, sinkAnswer := w.sinkAnswer, sinkFailure := w.sinkFailure
    wkStage := w.wkStage }

/-- A state with all that such a step of RX reads taken from another. -/
def withRxOperands (s r : State) : State := withRx { s with cfg := r.cfg, rxbuf := r.rxbuf } r

/-- A state with all that a step of WK reads taken from another. -/
def withWkOperands (s w : State) : State := withWk { s with cfg := w.cfg } w

/-- A turn of RX that does not route writes the same wherever it reads the same. -/
theorem rxTurn_of_sameOperands {s t s' : State} (hroute : ∀ d, s.rxStage ≠ .decoded d) (h : s.rxTurn = .next t)
    (hsame : withRxOperands s' s = s') : ∃ i, s'.rxTurn = .next { withRx s' t with issue := i } := by
  have hready (hr : RxReady s.asRx) : RxReady (withRxOperands s' s).asRx :=
    ⟨rfl, (standing_asRx_congr (s := withRxOperands s' s) (t := s) rfl).mpr hr.2⟩
  rw [← hsame]
  rcases rxTurn_cases h with ⟨hs, hp, rfl⟩ | ⟨hs, hp, hr, hb, rfl⟩ | ⟨d, hs, -⟩ | ⟨d, n, hs, hr, hb, rfl⟩
  · exact ⟨s'.issue, by simp [State.rxTurn, withRxOperands, withRx, hs, hp]⟩
  · refine ⟨(withRxOperands s' s).asRx.issue,
      (rxTurn_start (s := withRxOperands s' s) hs hp (hready hr) hb).trans ?_⟩
    rw [endDecode_eq, endDecode_eq]
    rfl
  · exact absurd hs (hroute d)
  · obtain ⟨header, hx⟩ : ∃ header, headerOf s.rxbuf = header := ⟨_, rfl⟩
    have hx' : headerOf (withRxOperands s' s).rxbuf = header := hx
    refine ⟨(withRxOperands s' s).asRx.issue, (rxTurn_end (s := withRxOperands s' s) hs (hready hr) hb).trans ?_⟩
    rw [hx, hx']
    cases header <;> rfl

/-- A turn of WK writes the same wherever it reads the same. -/
theorem wkTurn_of_sameOperands {s t s' : State} {a : SinkAnswer} (h : s.wkTurn a = .next t)
    (hsame : withWkOperands s' s = s') : ∃ i, s'.wkTurn a = .next { withWk s' t with issue := i } := by
  rw [← hsame]
  refine ⟨(withWkOperands s' s).asWk.issue, ?_⟩
  rcases wkTurn_cases h with ⟨hs, hst, rfl⟩ | ⟨e, hs, rfl⟩
  · have hst' := (standing_asWk_congr (s := withWkOperands s' s) (t := s) rfl).mpr hst
    obtain ⟨q, hq⟩ : ∃ q, s.evqItems = q := ⟨_, rfl⟩
    have hq' : (withWkOperands s' s).evqItems = q := hq
    rw [wkTurn_poll (s := withWkOperands s' s) hs hst' a, popHead_eq, popHead_eq, hq, hq']
    cases q <;> rfl
  · exact wkTurn_answer (s := withWkOperands s' s) hs a

/-- Settles O59: the two turns write fields of their own, so each writes the same before the other as after it. -/
theorem rxFrameIsAtomicAtItsRouting : Obligations.RxFrameIsAtomicAtItsRouting := by
  intro s t u a rest hroute hin ht hu
  rw [step_rxTurn hin] at ht
  have hwrites {s' : State} := rxTurn_of_sameOperands (s' := s') (s := { s with inbox := .wkTurn a :: rest }) hroute ht
  obtain ⟨i, hi⟩ := hwrites (s' := { s with inbox := .wkTurn a :: rest }) rfl
  have ht' := Host.Outcome.next.inj (ht.symm.trans hi)
  rw [step_wkTurn (rest := rest) (by rw [ht']; rfl)] at hu
  obtain ⟨j, hj⟩ := wkTurn_of_sameOperands hu (s' := { t with inbox := rest }) rfl
  have hu' := Host.Outcome.next.inj (hu.symm.trans hj)
  obtain ⟨j', hwk⟩ := wkTurn_of_sameOperands hu (s' := { s with inbox := .rxTurn :: rest }) (by rw [ht']; rfl)
  obtain ⟨i', hrx⟩ := hwrites (s' := { withWk { s with inbox := rest } u with issue := j' }) (by rw [hu', ht']; rfl)
  refine ⟨_, _, (step_wkTurn rfl).trans hwk, (step_rxTurn rfl).trans hrx, ?_⟩
  have hissue : u.issue = j := by rw [hu']
  rw [hissue]
  conv_rhs => rw [hu', ht']
  rfl

end Sys2Proof.Proofs
end


section
/-! PROOFS. No earlier outcome matters (R129): the contract and the effect of an instruction read its operands only. -/

namespace Sys2Proof.Proofs

open Sys2Proof Sys2Proof.Machine Sys2Proof.Spec

/-! ## The contract -/

section Contract

variable {s s' : State}

theorem sourceBytes_congr (h : s.rxbuf = s'.rxbuf) (src : ByteSource) : sourceBytes s src = sourceBytes s' src := by
  cases src <;> simp [sourceBytes, h]

theorem standing_congr (h : SameOperands s s') : standing s = standing s' := by
  obtain ⟨-, -, -, hcfg, -, -, hissue⟩ := h
  simp only [standing, noneInProgress, hcfg, hissue]

theorem sourceChecks_congr (h : SameOperands s s') (src : ByteSource) : sourceChecks s src = sourceChecks s' src := by
  obtain ⟨-, -, -, hcfg, hrxbuf, -, hissue⟩ := h
  cases src <;> simp only [sourceChecks, rxRole, rxStill, rxFits, hcfg, hrxbuf, hissue]

theorem checks_congr (h : SameOperands s s') (i : Instr) : checks i s = checks i s' := by
  have hsource := sourceChecks_congr h
  obtain ⟨-, -, -, hcfg, hrxbuf, hcrc, hissue⟩ := h
  cases i <;>
    simp only [checks, rxRole, wkRole, rxStill, rxFits, singlePush, singlePop, singleRecord, noneInProgress, hsource,
      sourceBytes_congr hrxbuf, crcOf_congr hcrc, hcfg, hrxbuf, hissue]

theorem exec_refused_congr (h : SameOperands s s') (i : Instr) (r : Refusal) :
    exec i s = .refused r ↔ exec i s' = .refused r := by
  simp only [exec_eq_commit, commit_refused, standing_congr h, checks_congr h]

end Contract

/-! ## The effect -/

/-- What the statement asks of the next states: the same operands, and every output alike. -/
def AnsweredAlike (s s' t t' : State) : Prop :=
  SameOperands t t'
    ∧ Alike State.dec s s' t t' ∧ Alike State.ack s s' t t' ∧ Alike State.pushDiscards s s' t t'
    ∧ Alike State.frameResult s s' t t' ∧ Alike State.sender s s' t t' ∧ Alike State.pop s s' t t'
    ∧ Alike State.sinkAnswer s s' t t' ∧ Alike State.sinkFailure s s' t t' ∧ Alike State.ackCrc s s' t t'
    ∧ Alike State.rxPending s s' t t' ∧ Alike State.rxStage s s' t t' ∧ Alike State.wkStage s s' t t'
    ∧ ∀ k, Alike (fun x => lookupKey x.qry k) s s' t t'

/-- What is alike after each of two updates is alike after both. -/
theorem alike_trans {α : Type} {out : State → α} {s s' t t' u u' : State} (h : Alike out s s' t t')
    (h' : Alike out t t' u u') : Alike out s s' u u' := by
  rcases h' with heq | ⟨hu, hu'⟩
  · exact .inl heq
  · rw [Alike, hu, hu']
    exact h

theorem answeredAlike_trans {s s' t t' u u' : State} (h : AnsweredAlike s s' t t') (h' : AnsweredAlike t t' u u') :
    AnsweredAlike s s' u u' := by
  obtain ⟨-, hdec, hack, hpush, hframe, hsender, hpop, hanswer, hfail, hackCrc, hpending, hrx, hwk, hqry⟩ := h
  obtain ⟨hsame, hdec', hack', hpush', hframe', hsender', hpop', hanswer', hfail', hackCrc', hpending', hrx', hwk',
    hqry'⟩ := h'
  exact ⟨hsame, alike_trans hdec hdec', alike_trans hack hack', alike_trans hpush hpush', alike_trans hframe hframe',
    alike_trans hsender hsender', alike_trans hpop hpop', alike_trans hanswer hanswer', alike_trans hfail hfail',
    alike_trans hackCrc hackCrc', alike_trans hpending hpending', alike_trans hrx hrx', alike_trans hwk hwk',
    fun k => alike_trans (hqry k) (hqry' k)⟩

section Effects

variable {s s' : State}

theorem answeredAlike_refl (h : SameOperands s s') : AnsweredAlike s s' s s' := by
  simp [AnsweredAlike, Alike, h]

theorem alike_endDecode (h : SameOperands s s') (d : DecodeOutcome) :
    AnsweredAlike s s' (s.endDecode d) (s'.endDecode d) := by
  simpa [AnsweredAlike, Alike, SameOperands] using h

theorem alike_route (h : SameOperands s s') (d : DecodeOutcome) : AnsweredAlike s s' (s.route d) (s'.route d) := by
  match d with
  | .error x => exact answeredAlike_refl h
  | .ok (.event e) | .ok (.heartbeat c) =>
    obtain ⟨hq, hmap, hcap, hcfg, hrxbuf, hcrc, hissue⟩ := h
    simp [AnsweredAlike, SameOperands, Alike, *]

/-- ACKGEN's register is written with a header and left alone without one (log 18). -/
theorem alike_endAck (h : SameOperands s s') (header : Option (List Byte)) :
    AnsweredAlike s s' (s.endAck header) (s'.endAck header) := by
  cases header <;> simpa [AnsweredAlike, SameOperands, Alike] using h

theorem alike_endFrame (h : SameOperands s s') (d : DecodeOutcome) (n : Nat) :
    AnsweredAlike s s' (s.endFrame d n) (s'.endFrame d n) := by
  obtain ⟨hq, hmap, hcap, hcfg, hrxbuf, hcrc, hissue⟩ := h
  simp [AnsweredAlike, SameOperands, Alike, *]

theorem routeDiscards_congr (h : SameOperands s s') (d : DecodeOutcome) : routeDiscards s d = routeDiscards s' d := by
  obtain ⟨hq, -, hcap, -⟩ := h
  match d with
  | .ok (.event e) => simp only [routeDiscards, hq, hcap]
  | .ok (.heartbeat c) | .error x => rfl

/-- RX.FRAME is alike in both because its sub-operations are. -/
theorem alike_frame (h : SameOperands s s') : AnsweredAlike s s' s.frame s'.frame := by
  have ⟨_, _, _, hcfg, hrxbuf, _, _⟩ := h
  simp only [State.frame, ← hcfg, ← hrxbuf, ← routeDiscards_congr h]
  have hdecode := alike_endDecode h (decodeRx s.cfg s.rxbuf)
  have hroute := answeredAlike_trans hdecode (alike_route hdecode.1 (decodeRx s.cfg s.rxbuf))
  have hack := answeredAlike_trans hroute (alike_endAck hroute.1 (headerOf s.rxbuf))
  exact answeredAlike_trans hack (alike_endFrame hack.1 _ _)

/-- A query writes its reader's outputs and leaves the others' alone (R110, R133). -/
theorem alike_setQry (h : SameOperands s s') (k : Nat) (q : QueryOutcome) :
    AnsweredAlike s s' (s.setQry k q) (s'.setQry k q) := by
  have hqry (k' : Nat) : Alike (fun x => lookupKey x.qry k') s s' (s.setQry k q) (s'.setQry k q) := by
    by_cases hk : k' = k
    · subst hk
      exact .inl (by simp)
    · exact .inr ⟨lookup_insert_other _ _ hk, lookup_insert_other _ _ hk⟩
  refine ⟨h, ?_, ?_, ?_, ?_, ?_, ?_, ?_, ?_, ?_, ?_, ?_, ?_, hqry⟩ <;> exact .inr ⟨rfl, rfl⟩

/-- The effect of an instruction on states that agree on its operands. -/
theorem alike_effect (h : SameOperands s s') (i : Instr) : AnsweredAlike s s' (effect i s) (effect i s') := by
  have ⟨hq, hmap, hcap, hcfg, hrxbuf, hcrc, hissue⟩ := h
  cases i <;> simp only [effect, ← hcfg, ← hrxbuf]
  case rxFrame => exact alike_frame h
  case decDecode | rxClassHeartbeat | rxClassEvent | hb18 | ev30 => exact alike_endDecode h _
  case ackBuild | ackFlags18 | ackFlags08 => exact alike_endAck h _
  case presQuery id =>
    simp only [State.answerQuery, ← hmap, ← hissue]
    exact alike_setQry h _ _
  case crcInit | crcByte | crcCompute =>
    simp [AnsweredAlike, SameOperands, Alike, crcOf_congr hcrc, sourceBytes_congr hrxbuf, *]
  all_goals simp [AnsweredAlike, SameOperands, Alike, *]

end Effects

/-- Settles O51: the same contract and, when it holds, the same effect on what is read and alike on what is written. -/
theorem noEarlierOutcomeMatters : Obligations.NoEarlierOutcomeMatters := by
  intro i s s' h
  refine ⟨exec_refused_congr h i, fun t hnext => ?_⟩
  obtain ⟨hstanding, hchecks, rfl⟩ := exec_next.mp hnext
  rw [← standing_iff, standing_congr h, standing_iff] at hstanding
  rw [checks_congr h] at hchecks
  exact ⟨_, exec_of_checks hstanding hchecks, alike_effect h i⟩

end Sys2Proof.Proofs
end


section
/-! PROOFS. Timestamps are tokens (R132, N4): renaming them commutes with the contract, with every effect, with the
decoder and with every step. -/

namespace Sys2Proof.Proofs

open Sys2Proof Sys2Proof.Machine Sys2Proof.Spec

/-! ## Maps with their values renamed -/

theorem insertKey_map {α : Type} (g : α → α) (m : KeyMap α) (q : Nat) (v : α) :
    insertKey (m.map fun e => (e.1, g e.2)) q (g v) = (insertKey m q v).map fun e => (e.1, g e.2) := by
  induction m with
  | nil => rfl
  | cons e m ih =>
    obtain ⟨k, w⟩ := e
    simp only [List.map_cons, insertKey]
    split
    · rfl
    · split
      · rfl
      · rw [ih, List.map_cons]

theorem lookupKey_map {α : Type} (g : α → α) (m : KeyMap α) (q : Nat) :
    lookupKey (m.map fun e => (e.1, g e.2)) q = (lookupKey m q).map g := by
  induction m with
  | nil => rfl
  | cons e m ih =>
    obtain ⟨k, w⟩ := e
    simp only [List.map_cons, lookupKey]
    split
    · rfl
    · exact ih

/-! ## Each update -/

section Updates

variable (f : TS → TS) (s : State)

theorem setCrc_renameState (v : Half) : (renameState f s).setCrc v = renameState f (s.setCrc v) := rfl

theorem endDecode_renameState (d : DecodeOutcome) : (renameState f s).endDecode d = renameState f (s.endDecode d) := by
  rw [endDecode_eq, endDecode_eq]
  rfl

theorem endAck_renameState (header : Option (List Byte)) :
    (renameState f s).endAck header = renameState f (s.endAck header) := by
  cases header <;> rfl

theorem push_renameState (e : QueuedEvent) : (renameState f s).push e = renameState f (s.push e) := rfl

theorem popHead_renameState : (renameState f s).popHead = renameState f s.popHead := by
  rw [popHead_eq, popHead_eq]
  rfl

theorem submit_renameState (a : SinkAnswer) : (renameState f s).submit a = renameState f (s.submit a) := by
  match hq : s.evqItems with
  | [] =>
    rw [submit_of_empty hq, submit_of_empty (s := renameState f s) hq]
    rfl
  | e :: es =>
    rw [submit_of_cons hq, submit_of_cons (s := renameState f s) hq]
    rfl

theorem recordHb_renameState (id : DevId) (now : TS) :
    (renameState f s).recordHb id (f now) = renameState f (s.recordHb id now) := by
  have hmap := insertKey_map (fun e : PresenceEntry => { e with lastSeenAt := f e.lastSeenAt }) s.presMap id.toNat
    ⟨now, true⟩
  simp only [State.recordHb, renameState, hmap]

theorem answerQuery_renameState (id : DevId) :
    (renameState f s).answerQuery id = renameAnswer f (s.answerQuery id) := by
  have hmap := lookupKey_map (fun e : PresenceEntry => { e with lastSeenAt := f e.lastSeenAt }) s.presMap id.toNat
  simp only [State.answerQuery, renameState, hmap]
  cases lookupKey s.presMap id.toNat <;> rfl

theorem setQry_renameState (k : Nat) (q : QueryOutcome) :
    (renameState f s).setQry k (renameAnswer f q) = renameState f (s.setQry k q) := by
  simp only [State.setQry, renameState, insertKey_map]

theorem route_renameState (d : DecodeOutcome) : (renameState f s).route d = renameState f (s.route d) := by
  match d with
  | .ok (.event e) => exact push_renameState f s e
  | .ok (.heartbeat c) => exact recordHb_renameState f s c.deviceId s.rxbuf.now
  | .error x => rfl

theorem endFrame_renameState (d : DecodeOutcome) (n : Nat) :
    (renameState f s).endFrame d n = renameState f (s.endFrame d n) := rfl

theorem routeDiscards_renameState (d : DecodeOutcome) : routeDiscards (renameState f s) d = routeDiscards s d := by
  match d with
  | .ok (.event e) | .ok (.heartbeat c) | .error x => rfl

/-- The parser does not read the time of RXBUF (R76). -/
theorem decodeRx_renameState : decodeRx (renameState f s).cfg (renameState f s).rxbuf = decodeRx s.cfg s.rxbuf := rfl

theorem headerOf_renameState : headerOf (renameState f s).rxbuf = headerOf s.rxbuf := rfl

theorem frame_renameState : (renameState f s).frame = renameState f s.frame := by
  simp only [State.frame, decodeRx_renameState, headerOf_renameState, routeDiscards_renameState,
    endDecode_renameState, route_renameState, endAck_renameState, endFrame_renameState]

/-- RESET puts its own token into RXBUF (log 4). -/
theorem restart_renameState (hf : f State.reset.rxbuf.now = State.reset.rxbuf.now) (c : Nat) :
    (renameState f s).restart c = renameState f (s.restart c) := by
  simp only [State.restart, renameState, hf]
  rfl

end Updates

/-! ## Each instruction -/

theorem checks_renameState (f : TS → TS) (i : Instr) (s : State) :
    checks (renameInstr f i) (renameState f s) = checks i s := by
  cases i
  case crcCompute src offset length => cases src <;> rfl
  all_goals rfl

theorem effect_renameState (f : TS → TS) {i : Instr} (s : State)
    (hi : isReset i = false ∨ f State.reset.rxbuf.now = State.reset.rxbuf.now) :
    effect (renameInstr f i) (renameState f s) = renameState f (effect i s) := by
  cases i <;> simp only [effect, renameInstr]
  case crcInit => exact setCrc_renameState f s _
  case crcByte => exact setCrc_renameState f s _
  case crcCompute src offset length => cases src <;> exact setCrc_renameState f s _
  case rxClassAbsent | rxClassBadLen => rfl
  case decDecode | rxClassHeartbeat | rxClassEvent | hb18 | ev30 =>
    exact endDecode_renameState f s _
  case ackBuild | ackFlags18 | ackFlags08 => exact endAck_renameState f s _
  case evqPush e => exact push_renameState f s e
  case evqTryPop => exact popHead_renameState f s
  case presRecHb id now => exact recordHb_renameState f s id now
  case presQuery id =>
    rw [answerQuery_renameState]
    exact setQry_renameState f s _ _
  case rxFrame => exact frame_renameState f s
  case wkStep a => exact submit_renameState f s a
  case reset c => exact restart_renameState f s (hi.resolve_left (by simp [isReset])) _

theorem exec_renameState (f : TS → TS) {i : Instr} (s : State)
    (hi : isReset i = false ∨ f State.reset.rxbuf.now = State.reset.rxbuf.now) :
    exec (renameInstr f i) (renameState f s) = renameResult f (exec i s) := by
  have hstanding : standing (renameState f s) = standing s := rfl
  rw [exec_eq_commit, exec_eq_commit, commit, commit, checks_renameState, hstanding, effect_renameState f s hi]
  cases firstRefusal (standing s ++ checks i s) <;> rfl

/-! ## Each turn -/

theorem andThen_renameResult (f : TS → TS) (r : Result) {g g' : State → State}
    (h : ∀ t, g' (renameState f t) = renameState f (g t)) :
    andThen (renameResult f r) g' = renameResult f (andThen r g) := by
  cases r with
  | next t => exact congrArg _ (h t)
  | fault x => rfl
  | refused x => rfl

theorem execRoute_renameState (f : TS → TS) (d : DecodeOutcome) (s : State) :
    execRoute d (renameState f s) = renameResult f (execRoute d s) := by
  match d with
  | .ok (.event e) => exact exec_renameState f (i := .evqPush e) s (.inl rfl)
  | .ok (.heartbeat c) => exact exec_renameState f (i := .presRecHb c.deviceId s.rxbuf.now) s (.inl rfl)
  | .error x => rfl

theorem rxTurn_renameState (f : TS → TS) (s : State) : (renameState f s).rxTurn = renameResult f s.rxTurn := by
  have hstage : (renameState f s).rxStage = s.rxStage := rfl
  have hpending : (renameState f s).rxPending = s.rxPending := rfl
  have hrx : (renameState f s).asRx = renameState f s.asRx := rfl
  simp only [State.rxTurn, hstage, hpending, hrx]
  match s.rxStage with
  | .waiting =>
    by_cases hp : s.rxPending = true
    · rw [if_pos hp, if_pos hp]
      exact (congrArg (andThen · _) (exec_renameState f (i := .decDecode) s.asRx (.inl rfl))).trans
        (andThen_renameResult f _ fun _ => rfl)
    · rw [if_neg hp, if_neg hp]
      rfl
  | .decoded d =>
    dsimp only
    rw [execRoute_renameState, routeDiscards_renameState]
    exact andThen_renameResult f _ fun _ => rfl
  | .routed d n =>
    exact (congrArg (andThen · _) (exec_renameState f (i := .ackBuild) s.asRx (.inl rfl))).trans
      (andThen_renameResult f _ fun _ => rfl)

theorem wkTurn_renameState (f : TS → TS) (s : State) (a : SinkAnswer) :
    (renameState f s).wkTurn a = renameResult f (s.wkTurn a) := by
  have hstage : (renameState f s).wkStage = s.wkStage := rfl
  have hwk : (renameState f s).asWk = renameState f s.asWk := rfl
  have hq : (renameState f s).evqItems = s.evqItems := rfl
  simp only [State.wkTurn, hstage, hwk, hq]
  match s.wkStage with
  | .polling =>
    refine (congrArg (andThen · _) (exec_renameState f (i := .evqTryPop) s.asWk (.inl rfl))).trans
      (andThen_renameResult f _ fun _ => ?_)
    cases s.evqItems <;> rfl
  | .submitting e => rfl

/-! ## Each step -/

/-- A transaction with the timestamp on its lanes renamed. -/
def renameWire (f : TS → TS) (w : Wire) : Wire := { w with lanes := { w.lanes with now := f w.lanes.now } }

/-- The decoder copies the timestamp from its lane and reads nothing of it (R63, log 7). -/
theorem decode_renameWire (f : TS → TS) (w : Wire) : decode (renameWire f w) = (decode w).map (renameInstr f) := by
  obtain ⟨port, word, lanes⟩ := w
  cases port
  case operation =>
    match word with
    | [] => rfl
    | b :: c :: word => rfl
    | [b] =>
      simp only [decode, renameWire, decodeOperation]
      generalize b.toNat % 16 = n
      match n with
      | 0 | 1 | 2 | 3 | 4 | 5 | 6 | 7 | 8 | 9 | 10 | 11 | n + 12 => rfl
  case frameClass present =>
    match present, word with
    | false, _ | true, [] | true, [_] | true, _ :: _ :: _ :: _ => rfl
    | true, [lo, hi] =>
      simp only [decode, renameWire, decodeClass, if_true]
      split_ifs <;> rfl
  case frame =>
    show decodeFrame word = (decodeFrame word).map (renameInstr f)
    unfold decodeFrame
    split_ifs <;> rfl
  case ackSelector =>
    match word with
    | [] | b :: c :: word => rfl
    | [b] =>
      simp only [decode, renameWire, decodeAckSelector]
      split_ifs <;> rfl

theorem step_renameState (f : TS → TS) (s : State) (hf : f State.reset.rxbuf.now = State.reset.rxbuf.now) :
    step (renameState f s) = renameResult f (step s) := by
  have hin : (renameState f s).inbox = s.inbox.map (renameInput f) := rfl
  match h : s.inbox with
  | [] =>
    rw [step_idle h, step_idle (by rw [hin, h]; rfl)]
    rfl
  | .deliver rx :: rest =>
    rw [step_deliver h, step_deliver (rest := rest.map (renameInput f)) (by rw [hin, h]; rfl)]
    by_cases hw : s.rxStage = .waiting
    · rw [deliver_waiting hw, deliver_waiting (s := renameState f s) hw]
      rfl
    · rw [deliver_running hw, deliver_running (s := renameState f s) hw]
      rfl
  | .rxTurn :: rest =>
    rw [step_rxTurn h, step_rxTurn (rest := rest.map (renameInput f)) (by rw [hin, h]; rfl)]
    exact rxTurn_renameState f { s with inbox := rest }
  | .wkTurn a :: rest =>
    rw [step_wkTurn h, step_wkTurn (rest := rest.map (renameInput f)) (by rw [hin, h]; rfl)]
    exact wkTurn_renameState f { s with inbox := rest } a
  | .request issue w :: rest =>
    have h' : (renameState f s).inbox = .request issue (renameWire f w) :: rest.map (renameInput f) := by
      rw [hin, h]
      rfl
    cases hb : s.busy issue.agent with
    | true =>
      rw [step_busy h hb, step_busy h' hb]
      rfl
    | false =>
      have hw := decode_renameWire f w
      match hd : decode w with
      | .ok i =>
        rw [hd] at hw
        rw [step_request h hb hd, step_request h' hb hw]
        exact exec_renameState f (s.takeRequest issue rest) (.inr hf)
      | .error r =>
        rw [hd] at hw
        rw [step_undecodable h hb hd, step_undecodable h' hb hw]
        rfl

/-- Settles O60: a timestamp goes from RXBUF or a lane to the presence map and from there to a reader's outputs. -/
theorem timestampsAreOnlyStoredAndReturned : Obligations.TimestampsAreOnlyStoredAndReturned :=
  fun f s => ⟨fun _ hi => exec_renameState f s hi, step_renameState f s⟩

end Sys2Proof.Proofs
end
